-- ==== Sys2Proof/Word.lean ====
section
/-! DEFINITION. The words of the part: 00_scope.md, Conventions, "A word is 32 bits". -/

namespace Sys2Proof

/-- A word, and a byte address (upstream or physical): 32 bits. -/
abbrev Word := BitVec 32

/-- One byte of a service-port frame. -/
abbrev Byte := BitVec 8

/-- A two-byte number of a service-port frame. -/
abbrev Half := BitVec 16

end Sys2Proof
end

