-- ==== Sys2Proof/Config.lean ====
section
/-! DEFINITION. What the spec leaves open and the part decides: the free values. -/

namespace Sys2Proof

/-- FREE VALUE (log 3). Which of several expiries due at one moment the part takes first when no
command says: 11.5, "Either expiry may be taken first". It is applied to the counter `freeCount` of
`State`; nothing constrains it. -/
opaque Config.expiryChoice : Nat → Nat

/-- FREE VALUE (log 18). Word `index` of an OK answer that carries another number of words than its access
asked for: the spec gives the answer its effect (R65, R74) and states no words. It is applied to the
counter `freeCount` of `State`; nothing constrains it. -/
opaque Config.answerWord : (count index : Nat) → Word

end Sys2Proof
end

