-- ==== Sys2Proof/Syntax.lean ====
section
/-! DEFINITION. The commands: one constructor of `Instr` per row of spec/opcode_table.json, and the
records their operands are made of. -/

namespace Sys2Proof

/-- The agents whose entries the admission queue holds: requesters 0 to 7, and the monitor requester
(requester 8) of the service port (R28, R40). -/
inductive Requester where
  | bus (n : Fin 8)
  | monitor
  deriving DecidableEq, Repr

/-- Direction of a transaction (Tables 2-1 and 4-1). -/
inductive Direction where
  | read
  | write
  deriving DecidableEq, Repr

/-- Outcome of a downstream answer (Table 4-2). -/
inductive AnswerOutcome where
  | ok
  | error
  deriving DecidableEq, Repr

/-- An upstream request (Table 2-1). Byte enables are present on a single-word WRITE only and data
on a WRITE only; `Request.wf` says so. -/
structure Request where
  requester : Fin 8
  tag : Fin 4
  direction : Direction
  address : Word
  length : Nat
  byteEnables : Option (BitVec 4)
  data : List Word
  deriving DecidableEq, Repr

/-- The thirty-five bytes of a window record as WINDOW-WRITE carries them (Table 10-6), with each
number of more than one byte assembled most significant byte first (R181). -/
structure WindowBytes where
  flags : Byte
  kind : Byte
  cls : Byte
  readPermit : Byte
  writePermit : Byte
  base : Word
  size : Word
  target : Word
  ringK : Byte
  ringN : Half
  ringH : Byte
  ringT : Byte
  ringS : Byte
  columns : Half
  rows : Word
  pitch : Word
  scan : Byte
  endPolicy : Byte
  deriving DecidableEq, Repr

/-- The eleven bytes of a SETTINGS record as SETTINGS-WRITE carries them (Table 10-8). -/
structure SettingsBytes where
  interval : Half
  holdLimit : Half
  responseLimit : Half
  drainLimit : Byte
  threshold : Byte
  monitorClass : Byte
  defaultClass : Byte
  flags : Byte
  deriving DecidableEq, Repr

/-- The commands and events of the part, in the order of spec/opcode_table.json (`endOfReply` and
`frameEnd` last, as there). -/
inductive Instr where
  /-- R25. `offer` is the request newly offered on the shared channel, if any; the port takes the
  request at the front of the channel when it is ready. -/
  | requestTake (offer : Option Request)
  /-- R69 to R72. `memReady` is the level memory drives on its request channel's ready. -/
  | grant (memReady : Bool)
  /-- R73, R93. `memReady` as for GRANT. -/
  | writeBackIssue (memReady : Bool)
  /-- R65. -/
  | memoryAnswer (tag : Fin 8) (outcome : AnswerOutcome) (data : List Word)
  /-- R37, of the entry that carries this requester and upstream tag (R24, R40: at most one does). -/
  | holdTimerExpiry (requester : Requester) (tag : Fin 4)
  /-- R76. -/
  | responseTimerExpiry (tag : Fin 8)
  /-- R57. -/
  | intervalExpiry
  /-- R82. -/
  | endOfRecovery
  /-- R154. -/
  | drainTimerExpiry
  /-- R45 and the reset rule of every block. -/
  | hardReset
  /-- R83. -/
  | resetnRelease
  /-- R163: SSN falls. -/
  | frameStart
  /-- R164: SSN rises before a command is taken. -/
  | frameDiscard
  /-- R165: SSN rises during the reply, after `sent` whole bytes of it were shifted out. -/
  | replyLost (sent : Nat)
  /-- R166. -/
  | unknownCommand (code : Byte)
  /-- R169. -/
  | status
  /-- R170. -/
  | queueRead (position : Byte)
  /-- R171. -/
  | windowWrite (index : Byte) (record : WindowBytes)
  /-- R171. -/
  | windowRead (index : Byte)
  /-- R172. -/
  | cursorSet (index : Byte) (row column : Half)
  /-- R172. -/
  | rotate (index mode value : Byte)
  /-- R173. -/
  | classWrite (number level mode : Byte) (budget carry : Half)
  /-- R173. -/
  | classRead (number : Byte)
  /-- R174. -/
  | settingsWrite (record : SettingsBytes)
  /-- R174. -/
  | settingsRead
  /-- R178. -/
  | monitorRead (address : Word)
  /-- R178. -/
  | monitorWrite (address data : Word)
  /-- R180. -/
  | monitorResult
  /-- R137. -/
  | eventSetup (source level : Byte)
  /-- R142. -/
  | eventTake
  /-- R145. -/
  | eventRestore
  /-- R146. -/
  | eventFloor (value : Byte)
  /-- R147. -/
  | eventClear (mask : Half)
  /-- R148. -/
  | eventPeek
  /-- R41. -/
  | flush (mask : Byte)
  /-- R151. -/
  | drain (mask : Byte)
  /-- R155. -/
  | resume
  /-- R81. -/
  | faultClear
  /-- R160. -/
  | defaults
  /-- R163: SSN rises in TRAIL. -/
  | frameEnd
  /-- R163: the last reply byte has been shifted out. -/
  | endOfReply
  deriving DecidableEq, Repr

end Sys2Proof
end

