-- ==== Sys2Proof/Decode.lean ====
section
/-! DEFINITION. No row of spec/opcode_table.json has bits, so no word decodes to a command. The
service port does have an encoding of its own, the frame (R163, Tables 10-5, 10-6, 10-8, 10-12):
`decodeFrame` reads the command a frame's bytes take, `encodeFrame` writes them. -/

namespace Sys2Proof

/-- The rows of the table give no bits: no word spells a command (98_reader.md, "n_rows_with_fixed": 0). -/
def decodeTableWord (_nbits _w : Nat) : Option Instr := none

/-- R181: a two-byte number, most significant byte first. -/
def be2 (x : Half) : List Byte := [x.extractLsb' 8 8, x.extractLsb' 0 8]

/-- R181: a four-byte number, most significant byte first. -/
def be4 (x : Word) : List Byte :=
  [x.extractLsb' 24 8, x.extractLsb' 16 8, x.extractLsb' 8 8, x.extractLsb' 0 8]

/-- R181: the number two bytes carry. -/
def of2 (b1 b0 : Byte) : Half := b1 ++ b0

/-- R181: the number four bytes carry. -/
def of4 (b3 b2 b1 b0 : Byte) : Word := b3 ++ b2 ++ b1 ++ b0

/-- The twenty-four commands of the service port (Table 10-12). -/
inductive ServiceCode where
  | status | queueRead | windowWrite | windowRead | cursorSet | rotate | classWrite | classRead
  | settingsWrite | settingsRead | monitorRead | monitorWrite | monitorResult | eventSetup
  | eventTake | eventRestore | eventFloor | eventClear | eventPeek | flush | drain | resume
  | faultClear | defaults
  deriving DecidableEq, Repr

/-- All twenty-four, in the order of Table 10-12. -/
def ServiceCode.all : List ServiceCode :=
  [.status, .queueRead, .windowWrite, .windowRead, .cursorSet, .rotate, .classWrite, .classRead,
   .settingsWrite, .settingsRead, .monitorRead, .monitorWrite, .monitorResult, .eventSetup,
   .eventTake, .eventRestore, .eventFloor, .eventClear, .eventPeek, .flush, .drain, .resume,
   .faultClear, .defaults]

/-- The code byte of each command (R169 to R176, R178, R180, Table 10-5). -/
def ServiceCode.byte : ServiceCode → Byte
  | .status => 0x10
  | .queueRead => 0x11
  | .windowWrite => 0x20
  | .windowRead => 0x21
  | .cursorSet => 0x22
  | .rotate => 0x23
  | .classWrite => 0x30
  | .classRead => 0x31
  | .settingsWrite => 0x38
  | .settingsRead => 0x39
  | .monitorRead => 0x40
  | .monitorWrite => 0x41
  | .monitorResult => 0x42
  | .eventSetup => 0x50
  | .eventTake => 0x51
  | .eventRestore => 0x52
  | .eventFloor => 0x53
  | .eventClear => 0x54
  | .eventPeek => 0x55
  | .flush => 0x60
  | .drain => 0x61
  | .resume => 0x62
  | .faultClear => 0x63
  | .defaults => 0x64

/-- Argument bytes of each command (Table 10-12). -/
def ServiceCode.argBytes : ServiceCode → Nat
  | .status => 0
  | .queueRead => 1
  | .windowWrite => 36
  | .windowRead => 1
  | .cursorSet => 5
  | .rotate => 3
  | .classWrite => 7
  | .classRead => 1
  | .settingsWrite => 11
  | .settingsRead => 0
  | .monitorRead => 4
  | .monitorWrite => 8
  | .monitorResult => 0
  | .eventSetup => 2
  | .eventTake => 0
  | .eventRestore => 0
  | .eventFloor => 1
  | .eventClear => 2
  | .eventPeek => 0
  | .flush => 1
  | .drain => 1
  | .resume => 0
  | .faultClear => 0
  | .defaults => 0

/-- Reply bytes after a DONE outcome (Table 10-12). -/
def ServiceCode.replyBytes : ServiceCode → Nat
  | .status => 13
  | .queueRead => 24
  | .windowWrite => 0
  | .windowRead => 40
  | .cursorSet => 0
  | .rotate => 1
  | .classWrite => 0
  | .classRead => 15
  | .settingsWrite => 0
  | .settingsRead => 11
  | .monitorRead => 2
  | .monitorWrite => 2
  | .monitorResult => 6
  | .eventSetup => 0
  | .eventTake => 12
  | .eventRestore => 1
  | .eventFloor => 0
  | .eventClear => 0
  | .eventPeek => 4
  | .flush => 1
  | .drain => 1
  | .resume => 1
  | .faultClear => 0
  | .defaults => 0

/-- The command a code byte names, if any (R166: 00h, FFh and every other byte name none). -/
def ServiceCode.ofByte (b : Byte) : Option ServiceCode :=
  ServiceCode.all.find? (fun c => c.byte == b)

/-- Table 10-6, bytes 0 to 34. -/
def WindowBytes.ofBytes : List Byte → Option WindowBytes
  | f :: k :: c :: rp :: wp :: b3 :: b2 :: b1 :: b0 :: s3 :: s2 :: s1 :: s0 :: t3 :: t2 ::
    t1 :: t0 :: rk :: n1 :: n0 :: h :: t :: s :: c1 :: c0 :: r3 :: r2 :: r1 :: r0 :: p3 ::
    p2 :: p1 :: p0 :: sc :: ep :: [] =>
    some
      { flags := f, kind := k, cls := c, readPermit := rp, writePermit := wp,
        base := of4 b3 b2 b1 b0, size := of4 s3 s2 s1 s0, target := of4 t3 t2 t1 t0,
        ringK := rk, ringN := of2 n1 n0, ringH := h, ringT := t, ringS := s,
        columns := of2 c1 c0, rows := of4 r3 r2 r1 r0, pitch := of4 p3 p2 p1 p0,
        scan := sc, endPolicy := ep }
  | _ => none

/-- Table 10-6, bytes 0 to 34. -/
def WindowBytes.toBytes (w : WindowBytes) : List Byte :=
  [w.flags, w.kind, w.cls, w.readPermit, w.writePermit] ++ be4 w.base ++ be4 w.size ++
    be4 w.target ++ [w.ringK] ++ be2 w.ringN ++ [w.ringH, w.ringT, w.ringS] ++ be2 w.columns ++
    be4 w.rows ++ be4 w.pitch ++ [w.scan, w.endPolicy]

/-- Table 10-8. -/
def SettingsBytes.ofBytes : List Byte → Option SettingsBytes
  | [i1, i0, h1, h0, r1, r0, d, q, m, c, f] =>
    some
      { interval := of2 i1 i0, holdLimit := of2 h1 h0, responseLimit := of2 r1 r0,
        drainLimit := d, threshold := q, monitorClass := m, defaultClass := c, flags := f }
  | _ => none

/-- Table 10-8. -/
def SettingsBytes.toBytes (r : SettingsBytes) : List Byte :=
  be2 r.interval ++ be2 r.holdLimit ++ be2 r.responseLimit ++
    [r.drainLimit, r.threshold, r.monitorClass, r.defaultClass, r.flags]

/-- The command that a code and exactly its argument bytes carry (R169 to R180). -/
def decodeArgs (c : ServiceCode) (args : List Byte) : Option Instr :=
  match c, args with
  | .status, [] => some .status
  | .queueRead, [p] => some (.queueRead p)
  | .windowWrite, i :: rest => (WindowBytes.ofBytes rest).map (.windowWrite i)
  | .windowRead, [i] => some (.windowRead i)
  | .cursorSet, [i, r1, r0, c1, c0] => some (.cursorSet i (of2 r1 r0) (of2 c1 c0))
  | .rotate, [i, m, v] => some (.rotate i m v)
  | .classWrite, [n, l, m, b1, b0, c1, c0] =>
    some (.classWrite n l m (of2 b1 b0) (of2 c1 c0))
  | .classRead, [n] => some (.classRead n)
  | .settingsWrite, rest => (SettingsBytes.ofBytes rest).map .settingsWrite
  | .settingsRead, [] => some .settingsRead
  | .monitorRead, [a3, a2, a1, a0] => some (.monitorRead (of4 a3 a2 a1 a0))
  | .monitorWrite, [a3, a2, a1, a0, d3, d2, d1, d0] =>
    some (.monitorWrite (of4 a3 a2 a1 a0) (of4 d3 d2 d1 d0))
  | .monitorResult, [] => some .monitorResult
  | .eventSetup, [s, l] => some (.eventSetup s l)
  | .eventTake, [] => some .eventTake
  | .eventRestore, [] => some .eventRestore
  | .eventFloor, [v] => some (.eventFloor v)
  | .eventClear, [m1, m0] => some (.eventClear (of2 m1 m0))
  | .eventPeek, [] => some .eventPeek
  | .flush, [m] => some (.flush m)
  | .drain, [m] => some (.drain m)
  | .resume, [] => some .resume
  | .faultClear, [] => some .faultClear
  | .defaults, [] => some .defaults
  | _, _ => none

/-- R163, R164, R166: the command that a frame whose bytes on SDI are `bytes` takes. The first byte is
the code; a code that names no command is taken at its own arrival; otherwise the command is taken at
the arrival of its last argument byte. `none`: no command has been taken yet, and SSN rising now
discards the frame. Bytes after the take are ignored. -/
def decodeFrame : List Byte → Option Instr
  | [] => none
  | code :: rest =>
    match ServiceCode.ofByte code with
    | none => some (.unknownCommand code)
    | some c => if rest.length < c.argBytes then none else decodeArgs c (rest.take c.argBytes)

/-- The bytes of the frame that carries a command; `none` for the rows that are no frame's command. -/
def encodeFrame : Instr → Option (List Byte)
  | .requestTake _ => none
  | .grant _ => none
  | .writeBackIssue _ => none
  | .memoryAnswer _ _ _ => none
  | .holdTimerExpiry _ _ => none
  | .responseTimerExpiry _ => none
  | .intervalExpiry => none
  | .endOfRecovery => none
  | .drainTimerExpiry => none
  | .hardReset => none
  | .resetnRelease => none
  | .frameStart => none
  | .frameDiscard => none
  | .replyLost _ => none
  | .unknownCommand code => some [code]
  | .status => some [ServiceCode.status.byte]
  | .queueRead p => some [ServiceCode.queueRead.byte, p]
  | .windowWrite i r => some (ServiceCode.windowWrite.byte :: i :: r.toBytes)
  | .windowRead i => some [ServiceCode.windowRead.byte, i]
  | .cursorSet i r c => some (ServiceCode.cursorSet.byte :: i :: (be2 r ++ be2 c))
  | .rotate i m v => some [ServiceCode.rotate.byte, i, m, v]
  | .classWrite n l m b c => some (ServiceCode.classWrite.byte :: n :: l :: m :: (be2 b ++ be2 c))
  | .classRead n => some [ServiceCode.classRead.byte, n]
  | .settingsWrite r => some (ServiceCode.settingsWrite.byte :: r.toBytes)
  | .settingsRead => some [ServiceCode.settingsRead.byte]
  | .monitorRead a => some (ServiceCode.monitorRead.byte :: be4 a)
  | .monitorWrite a d => some (ServiceCode.monitorWrite.byte :: (be4 a ++ be4 d))
  | .monitorResult => some [ServiceCode.monitorResult.byte]
  | .eventSetup s l => some [ServiceCode.eventSetup.byte, s, l]
  | .eventTake => some [ServiceCode.eventTake.byte]
  | .eventRestore => some [ServiceCode.eventRestore.byte]
  | .eventFloor v => some [ServiceCode.eventFloor.byte, v]
  | .eventClear m => some (ServiceCode.eventClear.byte :: be2 m)
  | .eventPeek => some [ServiceCode.eventPeek.byte]
  | .flush m => some [ServiceCode.flush.byte, m]
  | .drain m => some [ServiceCode.drain.byte, m]
  | .resume => some [ServiceCode.resume.byte]
  | .faultClear => some [ServiceCode.faultClear.byte]
  | .defaults => some [ServiceCode.defaults.byte]
  | .frameEnd => none
  | .endOfReply => none

end Sys2Proof
end

