-- ==== Sys2Proof/WellFormed.lean ====
section
/-! DEFINITION. The commands that can be presented to the part. -/

namespace Sys2Proof

/-- 00_scope.md, Conventions: "Every transaction address on both buses is word-aligned". -/
def aligned (a : Word) : Bool := a.toNat % 4 == 0

/-- Table 2-1 and R22: a word-aligned address; 1-8 words; byte enables on a single-word WRITE and
nowhere else; `length` words of data on a WRITE and none on a READ. -/
def Request.wf (r : Request) : Bool :=
  aligned r.address && decide (1 ≤ r.length) && decide (r.length ≤ 8) &&
    (r.byteEnables.isSome == (decide (r.direction = .write) && decide (r.length = 1))) &&
    decide (r.data.length = if r.direction = .write then r.length else 0)

/-- The commands that can be presented: a request of the form of Table 2-1; an answer of at most eight
words (Table 4-2); fewer bytes sent of a lost reply than the longest reply has (Table 10-12: 41 with
the outcome byte); a code that names no command as UNKNOWN_COMMAND's (R166). Every other command
is one whatever its operands: an argument out of range is answered RANGE and is no ill-formed
command. -/
def Instr.wellFormed : Instr → Bool
  | .requestTake none => true
  | .requestTake (some r) => r.wf
  | .grant _ => true
  | .writeBackIssue _ => true
  | .memoryAnswer _ _ data => decide (data.length ≤ 8)
  | .holdTimerExpiry _ _ => true
  | .responseTimerExpiry _ => true
  | .intervalExpiry => true
  | .endOfRecovery => true
  | .drainTimerExpiry => true
  | .hardReset => true
  | .resetnRelease => true
  | .frameStart => true
  | .frameDiscard => true
  | .replyLost sent => decide (sent ≤ 40)
  | .unknownCommand code => (ServiceCode.ofByte code).isNone
  | .status => true
  | .queueRead _ => true
  | .windowWrite _ _ => true
  | .windowRead _ => true
  | .cursorSet _ _ _ => true
  | .rotate _ _ _ => true
  | .classWrite _ _ _ _ _ => true
  | .classRead _ => true
  | .settingsWrite _ => true
  | .settingsRead => true
  | .monitorRead _ => true
  | .monitorWrite _ _ => true
  | .monitorResult => true
  | .eventSetup _ _ => true
  | .eventTake => true
  | .eventRestore => true
  | .eventFloor _ => true
  | .eventClear _ => true
  | .eventPeek => true
  | .flush _ => true
  | .drain _ => true
  | .resume => true
  | .faultClear => true
  | .defaults => true
  | .frameEnd => true
  | .endOfReply => true

end Sys2Proof
end

