-- ==== Sys2Proof/Machine/State.lean ====
section
/-! DEFINITION. The state of the part, block by block as Figure 0-1 lists them, plus the queue of
commands; the stops; and the state right after reset. -/

namespace Sys2Proof.Machine

open Sys2Proof

/-! ## Window decoder and aperture unit -/

/-- The kind of a window (Table 1-1). -/
inductive WindowKind where
  | pass
  | ring
  | aperture
  | bitop
  deriving DecidableEq, Repr

/-- Scan order of an aperture (Table 1-2, R104). -/
inductive Scan where
  | rowMajor
  | columnMajor
  deriving DecidableEq, Repr

/-- End policy of an aperture (Table 1-2, R112, R113). -/
inductive EndPolicy where
  | wrap
  | stop
  deriving DecidableEq, Repr

/-- A window record: the common fields of Table 1-1 and the kind-specific fields of Table 1-2, those
of other kinds holding zero (R2). -/
structure WindowRecord where
  valid : Bool
  kind : WindowKind
  base : Word
  size : Word
  target : Word
  cls : Fin 8
  readPermit : Byte
  writePermit : Byte
  watch : Bool
  ringK : Nat
  ringN : Nat
  ringH : Nat
  ringT : Nat
  ringS : Nat
  columns : Nat
  rows : Nat
  pitch : Word
  scan : Scan
  endPolicy : EndPolicy
  deriving DecidableEq, Repr

/-- R3: the zeroed state. -/
def WindowRecord.zeroed : WindowRecord :=
  { valid := false, kind := .pass, base := 0, size := 0, target := 0, cls := 0, readPermit := 0,
    writePermit := 0, watch := false, ringK := 0, ringN := 0, ringH := 0, ringT := 0, ringS := 0,
    columns := 0, rows := 0, pitch := 0, scan := .rowMajor, endPolicy := .wrap }

/-- The cursor's own fields (Table 6-1); its geometry is the window record's. -/
structure Cursor where
  row : Nat
  column : Nat
  exhausted : Bool
  deriving DecidableEq, Repr

/-- R9, R103, R109: row 0, column 0, READY. -/
def Cursor.start : Cursor := { row := 0, column := 0, exhausted := false }

/-- The SETTINGS record (Table 10-4). Times in µs, the drain limit in ms. -/
structure Settings where
  interval : Nat
  holdLimit : Nat
  responseLimit : Nat
  drainLimit : Nat
  threshold : Nat
  monitorClass : Fin 8
  defaultClass : Fin 8
  deny : Bool
  deriving DecidableEq, Repr

/-- Table 10-4: the reset and DEFAULTS values. -/
def Settings.reset : Settings :=
  { interval := 1000, holdLimit := 0, responseLimit := 100, drainLimit := 10, threshold := 20,
    monitorClass := 0, defaultClass := 0, deny := false }

/-! ## Admission queue and upstream port -/

/-- The name of an entry: its requester and upstream tag. No two entries carry the same pair (R24,
R40); the admission stamp may repeat (R29). -/
structure EntryId where
  requester : Requester
  tag : Fin 4
  deriving DecidableEq, Repr

/-- What an entry was made through (Table 2-5, field origin). -/
inductive Origin where
  | window (w : Fin 16)
  | default
  | monitor
  deriving DecidableEq, Repr

/-- The operation of a bit-operation entry (Table 5-1). -/
inductive BitOp where
  | test
  | set
  | clear
  | change
  deriving DecidableEq, Repr

/-- The kind of an entry, with the fields Table 2-5 gives that kind alone. -/
inductive EntryKind where
  | plainRead
  | plainWrite (byteEnables : Option (BitVec 4)) (data : List Word)
  | bitRead (op : BitOp) (bit : Fin 32)
  | bitWrite (op : BitOp) (bit : Fin 32)
  deriving DecidableEq, Repr

/-- R30, Table 2-6. -/
inductive EntryState where
  | waiting
  | issued
  | fetching
  | writingBack
  deriving DecidableEq, Repr

/-- R31, Table 2-7, in the order of R34. -/
inductive HoldReason where
  | order
  | hazard
  | level
  | credit
  | slot
  | port
  deriving DecidableEq, Repr

/-- An admission-queue entry (Table 2-5). The hold reason is read from the state when it is reported
(R34) and is no field. -/
structure Entry where
  requester : Requester
  tag : Fin 4
  upAddress : Word
  origin : Origin
  kind : EntryKind
  physical : Word
  length : Nat
  cls : Fin 8
  stamp : Half
  holdLimit : Nat
  holdTimer : Nat
  state : EntryState
  dtag : Option (Fin 8)
  deriving DecidableEq, Repr

/-- The entry's name. -/
def Entry.id (e : Entry) : EntryId := { requester := e.requester, tag := e.tag }

/-- Upstream outcomes (Table 2-3). -/
inductive UpOutcome where
  | ok
  | denied
  | split
  | unsupported
  | apertureEnd
  | draining
  | holdTimeout
  | flushed
  | memError
  | memTimeout
  deriving DecidableEq, Repr

/-- An upstream response (Table 2-2). -/
structure Response where
  requester : Fin 8
  tag : Fin 4
  outcome : UpOutcome
  data : List Word
  deriving DecidableEq, Repr

/-- The upstream port: the requests offered on the shared channel and not yet taken, front first
(R25); the thirty-two occupancy flags (R24); the responses sent, oldest first (R23). -/
structure UpstreamPort where
  offered : List Request
  tagBusy : Vector (Vector Bool 4) 8
  responses : List Response
  deriving DecidableEq, Repr

/-- The admission queue: entries oldest first (R28) and the admission stamp counter (R29). -/
structure AdmissionQueue where
  entries : List Entry
  stamp : Half
  deriving DecidableEq, Repr

/-! ## Class table -/

/-- Class modes (Table 3-2). -/
inductive ClassMode where
  | free
  | enforce
  | report
  deriving DecidableEq, Repr

/-- A class record (Table 3-1). -/
structure ClassRecord where
  level : Fin 8
  mode : ClassMode
  budget : Half
  carry : Half
  credit : Int
  usedNow : Nat
  usedLast : Nat
  overrun : Bool
  deriving DecidableEq, Repr

/-- R48. -/
def ClassRecord.reset : ClassRecord :=
  { level := 4, mode := .free, budget := 0, carry := 0, credit := 0, usedNow := 0, usedLast := 0,
    overrun := false }

/-- The class table with the service-interval timer and the length of the interval in progress
(R47, R55). -/
structure ClassTable where
  classes : Vector ClassRecord 8
  length : Nat
  timer : Nat
  deriving DecidableEq, Repr

/-! ## Memory port and bit-operation unit -/

/-- Phase of a BUSY downstream tag (R67). -/
inductive Phase where
  | read
  | write
  | fetch
  | writeBack
  deriving DecidableEq, Repr

/-- The response limit and timer of an access that has been issued (Table 4-3). -/
structure Issued where
  limit : Nat
  timer : Nat
  deriving DecidableEq, Repr

/-- A downstream tag record (Table 4-3). `issued` is absent while a write-back waits (R73). -/
inductive TagRecord where
  | free
  | busy (owner : EntryId) (phase : Phase) (issued : Option Issued)
  | quarantined
  deriving DecidableEq, Repr

/-- Port state (Table 4-5). -/
inductive PortState where
  | running
  | stalled
  | recovering
  deriving DecidableEq, Repr

/-- A downstream request (Table 4-1). -/
structure MemRequest where
  tag : Fin 8
  direction : Direction
  address : Word
  length : Nat
  byteEnables : Option (BitVec 4)
  data : List Word
  deriving DecidableEq, Repr

/-- The memory port: its state and tags (R66), the write-backs that wait for the channel in the order
their fetch answers were taken (R73), the recovery timer (R81), the MRSTN output, memory's ready as
last sampled, and the requests issued, oldest first (R64). -/
structure MemoryPort where
  port : PortState
  tags : Vector TagRecord 8
  writeBacks : List (Fin 8)
  recoveryTimer : Nat
  mrstn : Bool
  ready : Bool
  requests : List MemRequest
  deriving DecidableEq, Repr

/-- What a slot records once the fetch has been answered OK (R89). -/
structure Fetched where
  word : Word
  newWord : Word
  write : Bool
  deriving DecidableEq, Repr

/-- A held atomic slot (R89). -/
structure Slot where
  owner : EntryId
  dtag : Fin 8
  word : Word
  op : BitOp
  bit : Fin 32
  fetched : Option Fetched
  deriving DecidableEq, Repr

/-! ## Event controller -/

/-- The thirteen event sources in the order of their vectors (Table 8-1). -/
inductive Source where
  | fault | memError | memTimeout | denied | refused | holdTimeout | overrun | apertureEnd | watch
  | drain | queueHigh | interval | monitorDone
  deriving DecidableEq, Repr

/-- Outcome held in the monitor result record (Table 10-14). -/
inductive MonitorOutcome where
  | ok
  | holdTimeout
  | memError
  | memTimeout
  deriving DecidableEq, Repr

/-- Detail codes (Table 8-2). -/
inductive Code where
  | phase (p : Phase)
  | stray
  | permit
  | routeDeny
  | split
  | unsupported
  | tagInUse
  | hold (r : HoldReason)
  | plain
  | bit
  | drained
  | stuck
  | number (n : Nat)
  | outcome (o : MonitorOutcome)
  deriving DecidableEq, Repr

/-- The window field of a detail (R133): W0-W15 or DEFAULT; none is the Option around it. -/
inductive WindowRef where
  | window (w : Fin 16)
  | default
  deriving DecidableEq, Repr

/-- A detail record (R133). -/
structure Detail where
  requester : Option Requester
  address : Word
  window : Option WindowRef
  cls : Option (Fin 8)
  code : Option Code
  deriving DecidableEq, Repr

/-- R133: the empty detail. -/
def Detail.empty : Detail :=
  { requester := none, address := 0, window := none, cls := none, code := none }

/-- A source record (R132). -/
structure SourceRecord where
  level : Nat
  pending : Bool
  detail : Detail
  count : Nat
  deriving DecidableEq, Repr

/-- R149: level 0, nothing pending. -/
def SourceRecord.reset : SourceRecord :=
  { level := 0, pending := false, detail := Detail.empty, count := 0 }

/-- R137, R149: FAULT's level is 8, fixed. -/
def SourceRecord.resetFault : SourceRecord := { SourceRecord.reset with level := 8 }

/-- The event controller: the source records by vector (R132), the floor (R138), the floor stack, top
first (R140), and the IRQN output, `true` when asserted, that is driven low (R139). -/
structure EventController where
  sources : Vector SourceRecord 13
  floor : Nat
  stack : List Nat
  irqn : Bool
  deriving DecidableEq, Repr

/-- R149. -/
def EventController.reset : EventController :=
  { sources := (Vector.replicate 13 SourceRecord.reset).set 0 SourceRecord.resetFault,
    floor := 0, stack := [], irqn := false }

/-! ## Drain control and service port -/

/-- Table 9-1. -/
inductive DrainState where
  | none
  | draining
  | drained
  | stuck
  deriving DecidableEq, Repr

/-- Drain control (Table 9-1). The limit is in ms; the timer counts µs since the drain started, and its
quotient by 1000 is the count of whole ms (R152). -/
structure DrainControl where
  state : DrainState
  mask : Byte
  limit : Nat
  timer : Nat
  deriving DecidableEq, Repr

/-- R150. The limit and the stopped timer have no reset value in the spec: 0 is a DESIGN CHOICE (log 7). -/
def DrainControl.reset : DrainControl := { state := .none, mask := 0, limit := 0, timer := 0 }

/-- Frame states (Table 10-2). -/
inductive FrameState where
  | idle
  | command
  | reply
  | trail
  deriving DecidableEq, Repr

/-- State of the monitor result record (Table 10-14). -/
inductive MonitorState where
  | idle
  | busy
  | done
  deriving DecidableEq, Repr

/-- The monitor result record (Table 10-14). -/
structure MonitorRecord where
  state : MonitorState
  outcome : Option MonitorOutcome
  data : Word
  deriving DecidableEq, Repr

/-- R177: IDLE, outcome none, data 0. -/
def MonitorRecord.reset : MonitorRecord := { state := .idle, outcome := none, data := 0 }

/-- The service port: frame state (R163), SSN's level, the bits of the byte that is arriving on SDI, first
bit first, the code and argument bytes stored in COMMAND, the formed reply with its outcome byte
first (R167), less the bytes already shifted out, those bytes, and the monitor result record (R177). -/
structure ServicePort where
  frame : FrameState
  ssnLow : Bool
  bits : List Bool
  stored : List Byte
  reply : List Byte
  shifted : List Byte
  monitor : MonitorRecord
  deriving DecidableEq, Repr

/-! ## The whole part -/

/-- The state of the part. `pending` is the queue of commands that wait, first in, first out, and
`freeCount` the counter the free values of `Config` are applied to: both are the model's own.
`resetAsserted` is the RESETN input. -/
structure State where
  pending : List Instr
  freeCount : Nat
  resetAsserted : Bool
  upstream : UpstreamPort
  windows : Vector WindowRecord 16
  cursors : Vector (Option Cursor) 16
  settings : Settings
  queue : AdmissionQueue
  classTable : ClassTable
  mem : MemoryPort
  slots : List Slot
  events : EventController
  drain : DrainControl
  service : ServicePort
  deriving DecidableEq, Repr

/-- Why the machine stops with a fault. Each is raised only on an operand that the spec says cannot be
presented to the part (log 4). -/
inductive Fault where
  /-- REQUEST_TAKE, offered a request that is not of the form of Table 2-1. Safe: no such request
  crosses the channel (R22). -/
  | malformedRequest
  /-- UNKNOWN_COMMAND with a code byte that names a command. Safe: such a byte is no unknown command
  (R166). -/
  | codeNamesCommand
  deriving DecidableEq, Repr

/-- Why a command is refused. -/
inductive Refusal where
  /-- Raised only by a dispatch arm whose command has no meaning yet. Safe: nothing runs. -/
  | notModelled (mnemonic : String)
  deriving DecidableEq, Repr

/-- The machine right after reset: RESETN has been released (log 1), the first service interval has
begun (R55), and every block holds its reset values (R3, R24, R29, R45, R48, R83, R89, R103, R149, R150,
R168, R177). Values the spec does not give are in log 5, 6 and 7. -/
def State.reset : State :=
  { pending := [], freeCount := 0, resetAsserted := false,
    upstream :=
      { offered := [], tagBusy := Vector.replicate 8 (Vector.replicate 4 false), responses := [] },
    windows := Vector.replicate 16 WindowRecord.zeroed,
    cursors := Vector.replicate 16 none,
    settings := Settings.reset,
    queue := { entries := [], stamp := 0 },
    classTable :=
      { classes := Vector.replicate 8 ClassRecord.reset, length := 1000, timer := 0 },
    mem :=
      { port := .running, tags := Vector.replicate 8 TagRecord.free, writeBacks := [],
        recoveryTimer := 0, mrstn := false, ready := false, requests := [] },
    slots := [],
    events := EventController.reset,
    drain := DrainControl.reset,
    service :=
      { frame := .idle, ssnLow := false, bits := [], stored := [], reply := [], shifted := [],
        monitor := MonitorRecord.reset } }

end Sys2Proof.Machine
end

