-- ==== Sys2Proof/Machine/Flags.lean ====
section
/-! DEFINITION. The event flags: recording an occurrence (R134), the conditions of the level sources
(R135), and the judgement of pending fields and IRQN (R139). -/

namespace Sys2Proof.Machine

open Sys2Proof

/-- Table 8-1: a source's vector. -/
def Source.vector : Source → Fin 13
  | .fault => 0
  | .memError => 1
  | .memTimeout => 2
  | .denied => 3
  | .refused => 4
  | .holdTimeout => 5
  | .overrun => 6
  | .apertureEnd => 7
  | .watch => 8
  | .drain => 9
  | .queueHigh => 10
  | .interval => 11
  | .monitorDone => 12

/-- Table 8-1: the source of a vector. -/
def Source.ofVector : Fin 13 → Source
  | 0 => .fault
  | 1 => .memError
  | 2 => .memTimeout
  | 3 => .denied
  | 4 => .refused
  | 5 => .holdTimeout
  | 6 => .overrun
  | 7 => .apertureEnd
  | 8 => .watch
  | 9 => .drain
  | 10 => .queueHigh
  | 11 => .interval
  | 12 => .monitorDone

/-- The thirteen sources, lowest vector first. -/
def Source.all : List Source :=
  [.fault, .memError, .memTimeout, .denied, .refused, .holdTimeout, .overrun, .apertureEnd, .watch,
   .drain, .queueHigh, .interval, .monitorDone]

/-- Table 8-1, column Type. -/
def Source.isLevel : Source → Bool
  | .fault => true
  | .apertureEnd => true
  | .drain => true
  | .queueHigh => true
  | .memError => false
  | .memTimeout => false
  | .denied => false
  | .refused => false
  | .holdTimeout => false
  | .overrun => false
  | .watch => false
  | .interval => false
  | .monitorDone => false

/-- The record of a source. -/
def State.source (s : State) (src : Source) : SourceRecord := s.events.sources[src.vector]

/-- Replace the record of a source. -/
def State.setSource (src : Source) (r : SourceRecord) (s : State) : State :=
  { s with events := { s.events with sources := s.events.sources.set src.vector r } }

/-- R134: an occurrence with detail `d` reaches an edge source's record. -/
def SourceRecord.record (d : Detail) (r : SourceRecord) : SourceRecord :=
  if r.pending then { r with count := min 15 (r.count + 1) }
  else { r with pending := true, detail := d, count := 1 }

/-- R134, R142, R147: an edge source's record once it has stopped being pending. -/
def SourceRecord.emptied (r : SourceRecord) : SourceRecord :=
  { r with pending := false, detail := Detail.empty, count := 0 }

/-- R134: report one occurrence to an edge source. -/
def State.report (src : Source) (d : Detail) (s : State) : State :=
  s.setSource src ((s.source src).record d)

/-- The windows whose cursor is EXHAUSTED, lowest number first (R116). -/
def State.exhausted (s : State) : List (Fin 16) :=
  (List.finRange 16).filter fun w =>
    match s.cursors[w] with
    | some c => c.exhausted
    | none => false

/-- R135: whether a source is pending once its owner has judged its condition. An edge source's pending
field is what its record holds. -/
def State.judgedPending (s : State) : Source → Bool
  | .fault => decide (s.mem.port = .stalled)
  | .apertureEnd => !s.exhausted.isEmpty
  | .drain => decide (s.drain.state = .drained) || decide (s.drain.state = .stuck)
  | .queueHigh => decide (s.settings.threshold ≤ s.queue.entries.length)
  | .memError => (s.source .memError).pending
  | .memTimeout => (s.source .memTimeout).pending
  | .denied => (s.source .denied).pending
  | .refused => (s.source .refused).pending
  | .holdTimeout => (s.source .holdTimeout).pending
  | .overrun => (s.source .overrun).pending
  | .watch => (s.source .watch).pending
  | .interval => (s.source .interval).pending
  | .monitorDone => (s.source .monitorDone).pending

/-- R135: the four level sources' pending fields follow their owners' conditions. -/
def State.judgeSources (s : State) : State :=
  { s with
    events :=
      { s.events with
        sources := Vector.ofFn fun i =>
          { s.events.sources[i] with pending := s.judgedPending (Source.ofVector i) } } }

/-- R138: a source above the floor. -/
def State.aboveFloor (s : State) (src : Source) : Bool :=
  (s.source src).pending && decide (s.events.floor < (s.source src).level)

/-- R139: whether some pending source has a level above the floor. -/
def State.irqnWanted (s : State) : Bool := Source.all.any s.aboveFloor

/-- R139: IRQN follows. -/
def State.judgeIrqn (s : State) : State := { s with events := { s.events with irqn := s.irqnWanted } }

/-- R135, R139: the level sources and then IRQN are judged again, at the end of every event that can
change a pending field, a level or the floor. -/
def State.judge (s : State) : State := s.judgeSources.judgeIrqn

end Sys2Proof.Machine
end

