-- ==== Sys2Proof/Machine/Operands.lean ====
section
/-! DEFINITION. Operand and reply forms of the service port: the checks that turn the bytes of a record
into the record (R6 to R10, R59, R174), and the encodings of Tables 10-3 and 10-6 to 10-14 (R181). -/

namespace Sys2Proof.Machine

open Sys2Proof

/-- 2³², the size of both address spaces. -/
def addressSpace : Nat := 4294967296

/-- A one-byte number. -/
def byteOf (n : Nat) : Byte := BitVec.ofNat 8 n

/-- A two-byte number, most significant byte first. -/
def bytes2 (n : Nat) : List Byte := be2 (BitVec.ofNat 16 n)

/-- R181: "In a one-byte field that can be absent, the value FFh stands for none." -/
def noneByte : Byte := 0xFF

/-! ## Enumerated bytes received -/

/-- Table 10-6, byte 1. -/
def WindowKind.ofByte (b : Byte) : Option WindowKind :=
  if b = 0 then some .pass
  else if b = 1 then some .ring
  else if b = 2 then some .aperture
  else if b = 3 then some .bitop
  else none

/-- Table 10-6, byte 33. -/
def Scan.ofByte (b : Byte) : Option Scan :=
  if b = 0 then some .rowMajor else if b = 1 then some .columnMajor else none

/-- Table 10-6, byte 34. -/
def EndPolicy.ofByte (b : Byte) : Option EndPolicy :=
  if b = 0 then some .wrap else if b = 1 then some .stop else none

/-- R173. -/
def ClassMode.ofByte (b : Byte) : Option ClassMode :=
  if b = 0 then some .free
  else if b = 1 then some .enforce
  else if b = 2 then some .report
  else none

/-- A class number or level of 0-7; any other byte is out of range. -/
def below8 (b : Byte) : Option (Fin 8) := if h : b.toNat < 8 then some ⟨b.toNat, h⟩ else none

/-- A window index of 0-15; any other byte is out of range. -/
def below16 (b : Byte) : Option (Fin 16) := if h : b.toNat < 16 then some ⟨b.toNat, h⟩ else none

/-! ## The window record (R6 to R10) -/


/-- Table 10-6, byte 0, bit 0. -/
def windowValid (b : WindowBytes) : Bool := b.flags.getLsbD 0

/-- Table 10-6, byte 0, bit 1. -/
def windowWatch (b : WindowBytes) : Bool := b.flags.getLsbD 1

/-- R6: the target's alignment for a kind. -/
def WindowKind.targetAlign : WindowKind → Nat
  | .pass => 16
  | .ring => 16
  | .aperture => 4
  | .bitop => 4

/-- R6, the conditions on base, size and target. The kind and the class are checked where they are
read. -/
def commonOk (b : WindowBytes) (kind : WindowKind) : Bool :=
  decide (b.base.toNat % 16 = 0) && decide (b.size.toNat % 16 = 0) && decide (16 ≤ b.size.toNat) &&
    decide (b.base.toNat + b.size.toNat ≤ addressSpace) &&
    decide (b.target.toNat % kind.targetAlign = 0)

/-- R7. -/
def passOk (b : WindowBytes) : Bool :=
  decide (b.target.toNat + b.size.toNat ≤ addressSpace)

/-- R8. `n`, `h`, `t` are N, H and T; H + T ≤ N − 2 is read as H + T + 2 ≤ N, and S < N − H − T as
H + T + S < N. -/
def ringOk (b : WindowBytes) : Bool :=
  let k := b.ringK.toNat
  let n := b.ringN.toNat
  let h := b.ringH.toNat
  let t := b.ringT.toNat
  decide (8 ≤ k) && decide (k ≤ 16) && decide (2 ≤ n) && decide (n ≤ 256) &&
    decide (b.size.toNat = n * 2 ^ k) && decide (b.base.toNat % 2 ^ k = 0) &&
    decide (b.target.toNat % 2 ^ k = 0) && decide (h + t + 2 ≤ n) &&
    decide (h + t + b.ringS.toNat < n) &&
    decide (b.target.toNat + b.size.toNat ≤ addressSpace)

/-- R9, but for scan and end policy, which are checked where they are read. -/
def apertureOk (b : WindowBytes) : Bool :=
  let columns := b.columns.toNat
  let rows := b.rows.toNat
  let pitch := b.pitch.toNat
  decide (b.size.toNat = 16) && decide (1 ≤ columns) && decide (columns ≤ 4096) &&
    decide (1 ≤ rows) && decide (rows ≤ 65536) && decide (pitch % 4 = 0) &&
    (decide (rows = 1) || decide (4 * columns ≤ pitch)) &&
    decide (b.target.toNat + (rows - 1) * pitch + 4 * columns ≤ addressSpace)

/-- R10: 0200_0000h is 33554432. -/
def bitopOk (b : WindowBytes) : Bool :=
  decide (b.size.toNat % 512 = 0) && decide (b.size.toNat ≤ 33554432) &&
    decide (b.target.toNat + 4 * (b.size.toNat / 512) ≤ addressSpace)

/-- The common fields as written, with zero in every kind-specific field (R2). -/
def windowCommon (b : WindowBytes) (kind : WindowKind) (cls : Fin 8) : WindowRecord :=
  { WindowRecord.zeroed with
    valid := true, kind := kind, base := b.base, size := b.size, target := b.target, cls := cls,
    readPermit := b.readPermit, writePermit := b.writePermit, watch := windowWatch b }

/-- R6 to R11: the record that a WINDOW-WRITE with valid = yes stores, or `none` when a check fails. -/
def windowOfBytes (b : WindowBytes) : Option WindowRecord :=
  match WindowKind.ofByte b.kind, below8 b.cls with
  | some kind, some cls =>
    if commonOk b kind then
      match kind with
      | .pass => if passOk b then some (windowCommon b .pass cls) else none
      | .ring =>
        if ringOk b then
          some
            { windowCommon b .ring cls with
              ringK := b.ringK.toNat, ringN := b.ringN.toNat, ringH := b.ringH.toNat,
              ringT := b.ringT.toNat, ringS := b.ringS.toNat }
        else none
      | .aperture =>
        match Scan.ofByte b.scan, EndPolicy.ofByte b.endPolicy with
        | some scan, some endPolicy =>
          if apertureOk b then
            some
              { windowCommon b .aperture cls with
                columns := b.columns.toNat, rows := b.rows.toNat, pitch := b.pitch, scan := scan,
                endPolicy := endPolicy }
          else none
        | _, _ => none
      | .bitop => if bitopOk b then some (windowCommon b .bitop cls) else none
    else none
  | _, _ => none

/-! ## The SETTINGS record (R174) -/

/-- R174: the record a SETTINGS-WRITE writes, or `none` when a field is out of range. -/
def settingsOfBytes (b : SettingsBytes) : Option Settings :=
  match below8 b.monitorClass, below8 b.defaultClass with
  | some monitorClass, some defaultClass =>
    if 1 ≤ b.interval.toNat ∧ b.interval.toNat ≤ 4096 ∧ 1 ≤ b.responseLimit.toNat ∧
        b.responseLimit.toNat ≤ 1023 ∧ 1 ≤ b.drainLimit.toNat ∧ 1 ≤ b.threshold.toNat ∧
        b.threshold.toNat ≤ 24 then
      some
        { interval := b.interval.toNat, holdLimit := b.holdLimit.toNat,
          responseLimit := b.responseLimit.toNat, drainLimit := b.drainLimit.toNat,
          threshold := b.threshold.toNat, monitorClass := monitorClass,
          defaultClass := defaultClass, deny := b.flags.getLsbD 0 }
    else none
  | _, _ => none

/-! ## Bytes sent -/

/-- A reply of the service port (Table 10-3); the bytes are those after a DONE outcome. -/
inductive Reply where
  | done (bytes : List Byte)
  | busy
  | range
  | unknown
  deriving DecidableEq, Repr

/-- Table 10-3: the outcome byte, and after DONE the reply bytes; "A reply with any outcome but DONE is
the outcome byte alone" (R167). -/
def Reply.bytes : Reply → List Byte
  | .done bytes => 0x01 :: bytes
  | .busy => [0x02]
  | .range => [0x03]
  | .unknown => [0x04]

/-- One flag of a byte. -/
def flagByte (b : Bool) : Byte := if b then 1 else 0

/-- R133, Table 10-9, byte 4; Table 10-11, byte 1: 0-8. -/
def requesterByte : Requester → Byte
  | .bus n => byteOf n.val
  | .monitor => 8

/-- Table 10-6, byte 1. -/
def WindowKind.byte : WindowKind → Byte
  | .pass => 0
  | .ring => 1
  | .aperture => 2
  | .bitop => 3

/-- Table 10-6, byte 33. -/
def Scan.byte : Scan → Byte
  | .rowMajor => 0
  | .columnMajor => 1

/-- Table 10-6, byte 34. -/
def EndPolicy.byte : EndPolicy → Byte
  | .wrap => 0
  | .stop => 1

/-- Table 10-7, byte 1. -/
def ClassMode.byte : ClassMode → Byte
  | .free => 0
  | .enforce => 1
  | .report => 2

/-- Table 10-10, byte 4. -/
def PortState.byte : PortState → Byte
  | .running => 0
  | .stalled => 1
  | .recovering => 2

/-- R176: drain states. -/
def DrainState.byte : DrainState → Byte
  | .none => 0
  | .draining => 1
  | .drained => 2
  | .stuck => 3

/-- Table 10-10, byte 8. -/
def MonitorState.byte : MonitorState → Byte
  | .idle => 0
  | .busy => 1
  | .done => 2

/-- Table 10-13, first row. -/
def MonitorOutcome.byte : MonitorOutcome → Byte
  | .ok => 0x00
  | .holdTimeout => 0x06
  | .memError => 0x08
  | .memTimeout => 0x09

/-- Table 10-11, byte 6. -/
def HoldReason.byte : HoldReason → Byte
  | .order => 0
  | .hazard => 1
  | .level => 2
  | .credit => 3
  | .slot => 4
  | .port => 5

/-- Table 10-13, row MEM_ERROR, MEM_TIMEOUT. -/
def Phase.byte : Phase → Byte
  | .read => 0
  | .write => 1
  | .fetch => 2
  | .writeBack => 3

/-- Table 10-13, by the source the code belongs to. -/
def Code.byte : Code → Byte
  | .phase p => p.byte
  | .stray => 4
  | .permit => 0
  | .routeDeny => 1
  | .split => 0
  | .unsupported => 1
  | .tagInUse => 2
  | .hold r => r.byte
  | .plain => 0
  | .bit => 1
  | .drained => 0
  | .stuck => 1
  | .number n => byteOf n
  | .outcome o => o.byte

/-- Table 10-9, byte 9. -/
def WindowRef.byte : WindowRef → Byte
  | .window w => byteOf w.val
  | .default => 0x10

/-- Table 10-11, byte 3. -/
def Origin.byte : Origin → Byte
  | .window w => byteOf w.val
  | .default => 0x10
  | .monitor => 0x11

/-- Table 10-11, byte 4. -/
def EntryKind.byte : EntryKind → Byte
  | .plainRead => 0
  | .plainWrite _ _ => 1
  | .bitRead _ _ => 2
  | .bitWrite _ _ => 3

/-- Table 10-11, byte 5. -/
def EntryState.byte : EntryState → Byte
  | .waiting => 0
  | .issued => 1
  | .fetching => 2
  | .writingBack => 3

/-- Table 10-11, byte 10. -/
def BitOp.byte : BitOp → Byte
  | .test => 0
  | .set => 1
  | .clear => 2
  | .change => 3

/-- R181: a one-byte field that can be absent. -/
def optByte {α : Type} (f : α → Byte) : Option α → Byte
  | some a => f a
  | none => noneByte

/-- Table 10-9, bytes 4 to 11. -/
def Detail.bytes (d : Detail) : List Byte :=
  optByte requesterByte d.requester :: (be4 d.address ++
    [optByte WindowRef.byte d.window, optByte (fun c : Fin 8 => byteOf c.val) d.cls,
     optByte Code.byte d.code])

/-- Table 10-9, the event reply. -/
def eventReply (vector level count : Nat) (stackFull : Bool) (d : Detail) : List Byte :=
  byteOf vector :: byteOf level :: byteOf count :: flagByte stackFull :: d.bytes

/-- Table 10-6, the window record as WINDOW-READ returns it. -/
def WindowRecord.bytes (w : WindowRecord) : List Byte :=
  [flagByte w.valid ||| (flagByte w.watch <<< 1), w.kind.byte, byteOf w.cls.val, w.readPermit,
    w.writePermit] ++ be4 w.base ++ be4 w.size ++ be4 w.target ++ [byteOf w.ringK] ++
    bytes2 w.ringN ++ [byteOf w.ringH, byteOf w.ringT, byteOf w.ringS] ++ bytes2 w.columns ++
    be4 (BitVec.ofNat 32 w.rows) ++ be4 w.pitch ++ [w.scan.byte, w.endPolicy.byte]

/-- R105, R171: the cursor's row, column and state after the record; zero without a cursor. -/
def cursorBytes : Option Cursor → List Byte
  | some c => bytes2 c.row ++ bytes2 c.column ++ [flagByte c.exhausted]
  | none => [0, 0, 0, 0, 0]

/-- Table 10-7, the class record; the credit in two's complement (R181). -/
def ClassRecord.bytes (c : ClassRecord) : List Byte :=
  [byteOf c.level.val, c.mode.byte] ++ be2 c.budget ++ be2 c.carry ++
    be4 (BitVec.ofInt 32 c.credit) ++ bytes2 c.usedNow ++ bytes2 c.usedLast ++ [flagByte c.overrun]

/-- Table 10-8, the SETTINGS record. -/
def Settings.bytes (r : Settings) : List Byte :=
  bytes2 r.interval ++ bytes2 r.holdLimit ++ bytes2 r.responseLimit ++
    [byteOf r.drainLimit, byteOf r.threshold, byteOf r.monitorClass.val, byteOf r.defaultClass.val,
     flagByte r.deny]

/-- The monitor result reply, six bytes (10.10). -/
def MonitorRecord.bytes (m : MonitorRecord) : List Byte :=
  m.state.byte :: optByte MonitorOutcome.byte m.outcome :: be4 m.data

/-- The op and bit of an entry's kind. -/
def EntryKind.opBit : EntryKind → Option (BitOp × Fin 32)
  | .plainRead => none
  | .plainWrite _ _ => none
  | .bitRead op bit => some (op, bit)
  | .bitWrite op bit => some (op, bit)

/-- Table 10-11, the QUEUE-READ reply of an entry with hold reason `reason` (`none` once granted). The
hold timer saturates at 65535 and is 0 once granted (R170). -/
def Entry.bytes (e : Entry) (reason : Option HoldReason) : List Byte :=
  [1, requesterByte e.requester, byteOf e.tag.val, e.origin.byte, e.kind.byte, e.state.byte,
    optByte HoldReason.byte reason, optByte (fun d : Fin 8 => byteOf d.val) e.dtag,
    byteOf e.cls.val, byteOf e.length, optByte (fun p : BitOp × Fin 32 => p.1.byte) e.kind.opBit,
    optByte (fun p : BitOp × Fin 32 => byteOf p.2.val) e.kind.opBit] ++ be2 e.stamp ++
    bytes2 (if e.state = .waiting then min 65535 e.holdTimer else 0) ++ be4 e.upAddress ++
    be4 e.physical

end Sys2Proof.Machine
end

