-- ==== Sys2Proof/Machine/Ops.lean ====
section
/-! DEFINITION. The named operations that several commands share: writing one record of a table, the
admission and the completion of an entry, the reply of the service port. -/

namespace Sys2Proof.Machine

open Sys2Proof

/-- What a command answers. -/
abbrev Result := Host.Outcome State Fault Refusal

/-- R25: the admission queue never holds more than twenty-four entries. -/
def queueDepth : Nat := 24

/-! ## One record of a table -/

/-- Replace one window record. -/
def State.setWindow (w : Fin 16) (r : WindowRecord) (s : State) : State :=
  { s with windows := s.windows.set w r }

/-- Replace, create or discard one cursor. -/
def State.setCursor (w : Fin 16) (c : Option Cursor) (s : State) : State :=
  { s with cursors := s.cursors.set w c }

/-- Replace one class record. -/
def State.setClass (k : Fin 8) (c : ClassRecord) (s : State) : State :=
  { s with classTable := { s.classTable with classes := s.classTable.classes.set k c } }

/-- Replace one downstream tag record. -/
def State.setTag (n : Fin 8) (r : TagRecord) (s : State) : State :=
  { s with mem := { s.mem with tags := s.mem.tags.set n r } }

/-- Table 4-3: the states of a downstream tag. -/
inductive TagState where
  | free
  | busy
  | quarantined
  deriving DecidableEq, Repr

/-- The state of a tag record. -/
def TagRecord.state : TagRecord → TagState
  | .free => .free
  | .busy _ _ _ => .busy
  | .quarantined => .quarantined

/-- R66, R169: how many of the eight tags are in a state. -/
def State.countTags (s : State) (t : TagState) : Nat :=
  ((List.finRange 8).filter (fun n => s.mem.tags[n].state = t)).length

/-- Issue one downstream request (R64): "the issue of an access and the taking of its request by memory
are one event". -/
def State.issue (q : MemRequest) (s : State) : State :=
  { s with mem := { s.mem with requests := s.mem.requests ++ [q] } }

/-- The level memory drives on its request channel's ready. -/
def State.sampleReady (ready : Bool) (s : State) : State := { s with mem := { s.mem with ready := ready } }

/-- R24: whether a (requester, tag) pair is BUSY. -/
def State.tagIsBusy (s : State) (requester : Fin 8) (tag : Fin 4) : Bool :=
  s.upstream.tagBusy[requester][tag]

/-- R24: make a (requester, tag) pair BUSY or FREE. -/
def State.setTagBusy (requester : Fin 8) (tag : Fin 4) (busy : Bool) (s : State) : State :=
  { s with
    upstream :=
      { s.upstream with
        tagBusy := s.upstream.tagBusy.set requester (s.upstream.tagBusy[requester].set tag busy) } }

/-- R23: the upstream port sends a response at the moment the part decides it. -/
def State.respond (r : Response) (s : State) : State :=
  { s with upstream := { s.upstream with responses := s.upstream.responses ++ [r] } }

/-! ## Views -/

/-- R25: the upstream port's ready. -/
def State.upReady (s : State) : Bool :=
  !s.resetAsserted && decide (s.queue.entries.length < queueDepth)

/-- The byte on SDO in the present byte slot, `none` when SDO is released (Table 10-2). In REPLY it is the
first of the bytes not yet shifted out. -/
def State.sdo (s : State) : Option Byte :=
  match s.service.frame with
  | .idle => none
  | .command => some 0x00
  | .reply => s.service.reply.head?
  | .trail => some 0xFF

/-- The level of SDO at the next rising edge of SCK, `none` when SDO is released: "Bytes are sent most
significant bit first, in both directions" (R163). -/
def State.sdoBit (s : State) : Option Bool :=
  s.sdo.map fun b => b.getLsbD (7 - s.service.bits.length)

/-- A frame is in progress of which nothing has arrived yet (Table 10-2, COMMAND). A command of the table
stands for all the bytes of its frame. -/
abbrev State.inCommand (s : State) : Prop :=
  s.service.frame = .command ∧ s.service.stored = [] ∧ s.service.bits = []

/-- R181: a set of requesters is one byte, bit n standing for requester n; it cannot name requester 8. -/
def inMask (mask : Byte) : Requester → Bool
  | .bus n => mask.getLsbD n.val
  | .monitor => false

/-! ## Entries -/

/-- The entry with a name. -/
def State.findEntry (s : State) (id : EntryId) : Option Entry :=
  s.queue.entries.find? (fun e => e.id = id)

/-- Remove the entry with a name; "the remaining entries keep their order" (R28). -/
def State.removeEntry (id : EntryId) (s : State) : State :=
  { s with queue := { s.queue with entries := s.queue.entries.filter (fun e => e.id ≠ id) } }

/-- Change the entry with a name. -/
def State.updateEntry (id : EntryId) (f : Entry → Entry) (s : State) : State :=
  { s with
    queue := { s.queue with entries := s.queue.entries.map (fun e => if e.id = id then f e else e) } }

/-- The window field of a detail that names an entry: its origin, none for MONITOR (R37, R54, R75). -/
def Origin.ref : Origin → Option WindowRef
  | .window w => some (.window w)
  | .default => some .default
  | .monitor => none

/-- The detail of an occurrence about an entry that gives its upstream address (R37, R43, R54). -/
def Entry.detail (e : Entry) (code : Option Code) : Detail :=
  { requester := some e.requester, address := e.upAddress, window := e.origin.ref,
    cls := some e.cls, code := code }

/-- The detail of an occurrence about an access of an entry, which gives the physical address (R75,
R76). -/
def Entry.accessDetail (e : Entry) (p : Phase) : Detail :=
  { requester := some e.requester, address := e.physical, window := e.origin.ref,
    cls := some e.cls, code := some (.phase p) }

/-- R40, R177: mark the monitor result record, when a monitor command is accepted. -/
def State.setMonitor (m : MonitorRecord) (s : State) : State :=
  { s with service := { s.service with monitor := m } }

/-- R28, R29: the entry goes to the young end of the queue as WAITING, with the counter's stamp, a copy of
the hold limit setting and a hold timer at zero; the counter advances, wrapping from 65535 to 0; a
bus requester's (requester, tag) pair becomes BUSY (R24). -/
def State.enqueue (requester : Requester) (tag : Fin 4) (upAddress : Word) (origin : Origin)
    (kind : EntryKind) (physical : Word) (length : Nat) (cls : Fin 8) (s : State) : State :=
  let e : Entry :=
    { requester := requester, tag := tag, upAddress := upAddress, origin := origin, kind := kind,
      physical := physical, length := length, cls := cls, stamp := s.queue.stamp,
      holdLimit := s.settings.holdLimit, holdTimer := 0, state := .waiting, dtag := none }
  let s' := { s with queue := { entries := s.queue.entries ++ [e], stamp := s.queue.stamp + 1 } }
  match requester with
  | .bus n => s'.setTagBusy n tag true
  | .monitor => s'

/-! ## Completion (R38) -/

/-- Table 10-14: the outcomes the monitor result record can hold. The others do not reach a monitor
entry (R179). -/
def MonitorOutcome.of : UpOutcome → Option MonitorOutcome
  | .ok => some .ok
  | .holdTimeout => some .holdTimeout
  | .memError => some .memError
  | .memTimeout => some .memTimeout
  | .denied => none
  | .split => none
  | .unsupported => none
  | .apertureEnd => none
  | .draining => none
  | .flushed => none

/-- R38, steps 2 and 3: the response of a bus requester, whose pair becomes FREE; for the monitor
requester the monitor result record and a MONITOR_DONE occurrence (R179). -/
def State.deliver (e : Entry) (o : UpOutcome) (data : List Word) (s : State) : State :=
  match e.requester with
  | .bus n =>
    (s.respond { requester := n, tag := e.tag, outcome := o, data := data }).setTagBusy n e.tag false
  | .monitor =>
    (s.setMonitor { state := .done, outcome := MonitorOutcome.of o, data := data.headD 0 }).report
      .monitorDone
      { requester := some .monitor, address := e.physical, window := none, cls := some e.cls,
        code := (MonitorOutcome.of o).map .outcome }

/-- R43: PLAIN for a PLAIN_WRITE, BIT for a bit operation. -/
def EntryKind.watchCode : EntryKind → Code
  | .plainRead => .plain
  | .plainWrite _ _ => .plain
  | .bitRead _ _ => .bit
  | .bitWrite _ _ => .bit

/-- R43: an entry that completes OK and wrote memory raises WATCH when its origin window's watch flag is
on as the table stands now (R21). -/
def State.raiseWatch (e : Entry) (s : State) : State :=
  match e.origin with
  | .window w =>
    if s.windows[w].watch then s.report .watch (e.detail (some e.kind.watchCode)) else s
  | .default => s
  | .monitor => s

/-- Whether an entry of a masked requester is in the queue (R151, R153). -/
def State.maskedEntry (s : State) (mask : Byte) : Bool :=
  s.queue.entries.any (fun e => inMask mask e.requester)

/-- R153: drain control is informed that an entry of a requester has left. -/
def State.informDrain (requester : Requester) (s : State) : State :=
  if (s.drain.state = .draining ∨ s.drain.state = .stuck) ∧ inMask s.drain.mask requester = true ∧
      s.maskedEntry s.drain.mask = false then
    { s with drain := { s.drain with state := .drained } }
  else s

/-- R38: the completion of entry `e` with outcome `o`; `wrote` says whether it wrote memory. -/
def State.complete (e : Entry) (o : UpOutcome) (data : List Word) (wrote : Bool) (s : State) :
    State :=
  let s1 := (s.removeEntry e.id).deliver e o data
  let s2 := if o = .ok ∧ wrote = true then s1.raiseWatch e else s1
  s2.informDrain e.requester

/-- R90: the atomic slot of an owner is released. -/
def State.releaseSlot (id : EntryId) (s : State) : State :=
  { s with slots := s.slots.filter (fun x => x.owner ≠ id) }

/-! ## The service port -/

/-- R163, R167: the command is taken; its reply is formed in full and the frame state becomes REPLY. -/
def State.answer (r : Reply) (s : State) : State :=
  { s with service := { s.service with frame := .reply, reply := r.bytes } }

/-- R163: a command is taken only in a frame in state COMMAND, and the bytes of a frame of which some have
arrived are another command's. In any other state the bytes are ignored (IDLE: SCK and SDI are
ignored; REPLY and TRAIL: never read as a new command). `f` is the command's effect and its reply. -/
def serve (s : State) (f : State → State × Reply) : Result :=
  if s.inCommand then .next ((f s).1.answer (f s).2) else .next s

/-- The first of the members of a list with the greatest key. -/
def pickMax {α : Type} (key : α → Nat) : List α → Option α
  | [] => none
  | a :: rest =>
    match pickMax key rest with
    | none => some a
    | some b => if key a < key b then some b else some a

end Sys2Proof.Machine
end

