-- ==== Sys2Proof/Machine/TimeBase.lean ====
section
/-! DEFINITION. The 1 µs time base and the timers it drives (R35, R55, R76, R81, R152; log 2). -/

namespace Sys2Proof.Machine

open Sys2Proof

/-- R81, R82: the recovery time in µs. -/
def recoveryLimit : Nat := 10

/-- µs until an entry's hold timer reaches its hold limit; `none` while the timer leads to no event: the
entry is not WAITING, or its hold limit is 0 (R35). -/
def Entry.holdLeft (e : Entry) : Option Nat :=
  if e.state = .waiting ∧ e.holdLimit ≠ 0 then some (e.holdLimit - e.holdTimer) else none

/-- µs until a tag's response timer reaches its limit; `none` when no response timer runs (R73, R76). -/
def TagRecord.responseLeft : TagRecord → Option Nat
  | .free => none
  | .busy _ _ (some i) => some (i.limit - i.timer)
  | .busy _ _ none => none
  | .quarantined => none

/-- µs until the service interval ends (R55); the timer runs in every state but under RESETN. -/
def State.intervalLeft (s : State) : Option Nat :=
  if s.resetAsserted then none else some (s.classTable.length - s.classTable.timer)

/-- µs until recovery ends (R82). -/
def State.recoveryLeft (s : State) : Option Nat :=
  if s.mem.port = .recovering then some (recoveryLimit - s.mem.recoveryTimer) else none

/-- µs until the drain timer reaches the drain's limit (R154); 1000 µs to the ms (R152). -/
def State.drainLeft (s : State) : Option Nat :=
  if s.drain.state = .draining then some (1000 * s.drain.limit - s.drain.timer) else none

/-- The time left of every running timer that leads to an event. -/
def State.timesLeft (s : State) : List Nat :=
  s.queue.entries.filterMap Entry.holdLeft ++ s.mem.tags.toList.filterMap TagRecord.responseLeft ++
    s.intervalLeft.toList ++ s.recoveryLeft.toList ++ s.drainLeft.toList

/-- Whether no timer's event comes before `k` µs have passed (log 2). -/
def State.nextWithin (s : State) (k : Nat) : Bool := s.timesLeft.all (fun t => k ≤ t)

/-- The response timer of an issued access counts; no other tag has a running timer. -/
def TagRecord.advance (k : Nat) : TagRecord → TagRecord
  | .free => .free
  | .busy owner phase (some i) => .busy owner phase (some { i with timer := i.timer + k })
  | .busy owner phase none => .busy owner phase none
  | .quarantined => .quarantined

/-- `k` µs of the time base pass: every running timer counts. Under RESETN none runs (R55, R83, R150). -/
def State.advance (k : Nat) (s : State) : State :=
  if s.resetAsserted then s
  else
    { s with
      queue :=
        { s.queue with
          entries := s.queue.entries.map (fun e => { e with holdTimer := e.holdTimer + k }) },
      classTable := { s.classTable with timer := s.classTable.timer + k },
      mem :=
        { s.mem with
          tags := Vector.ofFn fun n => s.mem.tags[n].advance k,
          recoveryTimer :=
            if s.mem.port = .recovering then s.mem.recoveryTimer + k else s.mem.recoveryTimer },
      drain :=
        { s.drain with
          timer := if s.drain.state = .draining then s.drain.timer + k else s.drain.timer } }

/-- The shape of every expiry (log 2): a timer with `left` µs to go expires when its event is the next one in
time; the time base then runs on to that moment and `f` happens. Otherwise the expiry is not what
comes next, and nothing happens. -/
def expire (left : Option Nat) (f : State → State) (s : State) : State :=
  match left with
  | some k => if s.nextWithin k then f (s.advance k) else s
  | none => s

/-- The expiries due at this moment. -/
def State.due (s : State) : List Instr :=
  (s.queue.entries.filter (fun e => e.holdLeft = some 0)).map
      (fun e => .holdTimerExpiry e.requester e.tag) ++
    ((List.finRange 8).filter (fun n => s.mem.tags[n].responseLeft = some 0)).map
      .responseTimerExpiry ++
    (if s.intervalLeft = some 0 then [.intervalExpiry] else []) ++
    (if s.recoveryLeft = some 0 then [.endOfRecovery] else []) ++
    (if s.drainLeft = some 0 then [.drainTimerExpiry] else [])

/-- The expiry the part takes by itself when no command waits: one of those due, which one being a free
value (log 3). -/
def State.ownExpiry (s : State) : Option Instr :=
  let n := s.due.length
  if n = 0 then none else s.due[Config.expiryChoice s.freeCount % n]?

/-- A free value has been used: the next one is another. -/
def State.countFree (s : State) : State := { s with freeCount := s.freeCount + 1 }

end Sys2Proof.Machine
end

