-- ==== Sys2Proof/Machine/Classes.lean ====
section
/-! DEFINITION. The class table: INTERVAL_EXPIRY, CLASS_WRITE and CLASS_READ (R55 to R60). -/

namespace Sys2Proof.Machine

open Sys2Proof

/-- R57: the refill of one class. -/
def ClassRecord.refilled (c : ClassRecord) : ClassRecord :=
  { c with
    credit := (c.budget.toNat : Int) + min c.credit (c.carry.toNat : Int),
    usedLast := c.usedNow, usedNow := 0, overrun := false }

/-- R55 to R58: every class is refilled, the next interval begins with the interval setting's length, and
INTERVAL receives one occurrence. -/
def State.endInterval (s : State) : State :=
  (({ s with
      classTable :=
        { classes := Vector.ofFn fun k => s.classTable.classes[k].refilled,
          length := s.settings.interval, timer := 0 } } : State).report .interval Detail.empty).judge

/-- INTERVAL_EXPIRY (R57). -/
def execIntervalExpiry (s : State) : Result := .next (expire s.intervalLeft State.endInterval s)

/-- R59: level, mode, budget and carry limit take the values written, then credit is clipped. -/
def ClassRecord.written (c : ClassRecord) (level : Fin 8) (mode : ClassMode) (budget carry : Half) :
    ClassRecord :=
  { c with
    level := level, mode := mode, budget := budget, carry := carry,
    credit := min c.credit ((budget.toNat : Int) + (carry.toNat : Int)) }

/-- R59, R173. -/
def State.writeClass (number level mode : Byte) (budget carry : Half) (s : State) : State × Reply :=
  match below8 number, below8 level, ClassMode.ofByte mode with
  | some k, some l, some m =>
    (s.setClass k (s.classTable.classes[k].written l m budget carry), .done [])
  | _, _, _ => (s, .range)

/-- CLASS-WRITE (R59, R173). -/
def execClassWrite (number level mode : Byte) (budget carry : Half) (s : State) : Result :=
  serve s (State.writeClass number level mode budget carry)

/-- R60, R173. -/
def State.readClass (number : Byte) (s : State) : State × Reply :=
  match below8 number with
  | some k => (s, .done s.classTable.classes[k].bytes)
  | none => (s, .range)

/-- CLASS-READ (R60, R173). -/
def execClassRead (number : Byte) (s : State) : Result := serve s (State.readClass number)

end Sys2Proof.Machine
end

