-- ==== Sys2Proof/Machine/DrainOps.lean ====
section
/-! DEFINITION. Drain control: DRAIN, RESUME, DRAIN_TIMER_EXPIRY and FLUSH (R41, R150 to R157). -/

namespace Sys2Proof.Machine

open Sys2Proof

/-- R151. RANGE for an empty mask in every drain state (R167); BUSY outside NONE; otherwise the drain
starts, DRAINED at once when no entry of the mask is in the queue. -/
def State.startDrain (mask : Byte) (s : State) : State × Reply :=
  if mask = 0 then (s, .range)
  else if s.drain.state ≠ .none then (s, .busy)
  else if s.maskedEntry mask then
    (({ s with
        drain :=
          { state := .draining, mask := mask, limit := s.settings.drainLimit, timer := 0 } } :
        State).judge,
      .done [DrainState.draining.byte])
  else
    (({ s with
        drain :=
          { s.drain with state := .drained, mask := mask, limit := s.settings.drainLimit } } :
        State).judge,
      .done [DrainState.drained.byte])

/-- DRAIN (R151, R176). -/
def execDrain (mask : Byte) (s : State) : Result := serve s (State.startDrain mask)

/-- R155. RANGE in NONE; otherwise the state becomes NONE and the mask empty, and the reply carries the
state found. -/
def State.resume (s : State) : State × Reply :=
  if s.drain.state = .none then (s, .range)
  else
    (({ s with drain := { s.drain with state := .none, mask := 0 } } : State).judge,
      .done [s.drain.state.byte])

/-- RESUME (R155, R176). -/
def execResume (s : State) : Result := serve s State.resume

/-- R154: the drain becomes STUCK; nothing is removed or refused for it. -/
def State.stick (s : State) : State :=
  ({ s with drain := { s.drain with state := .stuck } } : State).judge

/-- DRAIN_TIMER_EXPIRY (R154). -/
def execDrainTimerExpiry (s : State) : Result := .next (expire s.drainLeft State.stick s)

/-- R41: the WAITING entries of the masked requesters, oldest first. -/
def State.flushable (s : State) (mask : Byte) : List Entry :=
  s.queue.entries.filter (fun e => decide (e.state = .waiting) && inMask mask e.requester)

/-- R41, R157: each of them completes with FLUSHED, one after another in queue order, each informing drain
control; the reply carries how many. -/
def State.flush (mask : Byte) (s : State) : State × Reply :=
  (((s.flushable mask).foldl (fun t e => t.complete e .flushed [] false) s).judge,
    .done [byteOf (s.flushable mask).length])

/-- FLUSH (R41, R42, R176). -/
def execFlush (mask : Byte) (s : State) : Result := serve s (State.flush mask)

end Sys2Proof.Machine
end

