-- ==== Sys2Proof/Machine/Eligibility.lean ====
section
/-! DEFINITION. When an entry may be granted (R31 to R34, R49, R50), and the arbiter's choice (R69 to R71). -/

namespace Sys2Proof.Machine

open Sys2Proof

/-- R33: the physical word ranges of two entries have a word in common. -/
def overlap (a b : Entry) : Bool :=
  decide (a.physical.toNat < b.physical.toNat + 4 * b.length) &&
    decide (b.physical.toNat < a.physical.toNat + 4 * a.length)

/-- R29: the entries older than the one with a name: those placed earlier in the queue. -/
def State.olderThan (s : State) (id : EntryId) : List Entry :=
  s.queue.entries.takeWhile (fun e => e.id ≠ id)

/-- R32: no older entry of the same requester is WAITING. -/
def orderMet (older : List Entry) (e : Entry) : Bool :=
  older.all fun a => !(decide (a.requester = e.requester) && decide (a.state = .waiting))

/-- R33: no older entry in the queue shares a physical word. -/
def hazardMet (older : List Entry) (e : Entry) : Bool := older.all fun a => !overlap a e

/-- R49. -/
def levelMet (c : ClassRecord) : Bool := decide (1 ≤ c.level.val)

/-- R50. -/
def creditMet (c : ClassRecord) : Bool := decide (c.mode ≠ .enforce) || decide (1 ≤ c.credit)

/-- R87, R89: BIT_READ and BIT_WRITE are the bit operations. -/
def EntryKind.isBit (k : EntryKind) : Bool := k.opBit.isSome

/-- R31, SLOT: not a bit operation, or an atomic slot is free. -/
def State.slotMet (s : State) (e : Entry) : Bool := !e.kind.isBit || decide (s.slots.length < 2)

/-- R71: the FREE downstream tag with the lowest number. -/
def State.lowestFree (s : State) : Option (Fin 8) :=
  (List.finRange 8).find? (fun n => s.mem.tags[n] = .free)

/-- R31, PORT: the port is RUNNING, memory's request channel is ready, a downstream tag is FREE. -/
def State.portMet (s : State) : Bool :=
  decide (s.mem.port = .running) && s.mem.ready && s.lowestFree.isSome

/-- R31, R34: the first condition an entry does not meet, in the order of R34. -/
def State.firstUnmet (s : State) (e : Entry) : Option HoldReason :=
  if orderMet (s.olderThan e.id) e = false then some .order
  else if hazardMet (s.olderThan e.id) e = false then some .hazard
  else if levelMet s.classTable.classes[e.cls] = false then some .level
  else if creditMet s.classTable.classes[e.cls] = false then some .credit
  else if s.slotMet e = false then some .slot
  else if s.portMet = false then some .port
  else none

/-- R34: the hold reason of a WAITING entry; "A WAITING entry that meets every condition is reported with
PORT". -/
def State.holdReason (s : State) (e : Entry) : HoldReason := (s.firstUnmet e).getD .port

/-- R31. -/
def State.eligible (s : State) (e : Entry) : Bool :=
  decide (e.state = .waiting) && (s.firstUnmet e).isNone

/-- R70: the eligible entry whose class has the highest level, the oldest of those at that level. -/
def State.choice (s : State) : Option Entry :=
  pickMax (fun e => s.classTable.classes[e.cls].level.val) (s.queue.entries.filter s.eligible)

/-- R69, R73, R83: the arbiter makes no grant while a write-back waits, and none while RESETN is
asserted. -/
def State.arbiterOpen (s : State) : Bool := !s.resetAsserted && s.mem.writeBacks.isEmpty

end Sys2Proof.Machine
end

