-- ==== Sys2Proof/Machine/HoldTimer.lean ====
section
/-! DEFINITION. HOLD_TIMER_EXPIRY (R35 to R37). -/

namespace Sys2Proof.Machine

open Sys2Proof

/-- R37: the hold reason is read, the entry completes with HOLD_TIMEOUT, and one occurrence is reported. -/
def State.holdExpired (id : EntryId) (s : State) : State :=
  match s.findEntry id with
  | some e =>
    ((s.complete e .holdTimeout [] false).report .holdTimeout
      (e.detail (some (.hold (s.holdReason e))))).judge
  | none => s

/-- HOLD_TIMER_EXPIRY (R37): without a WAITING entry of this name that has a hold limit, "no expiry takes
place". -/
def execHoldTimerExpiry (requester : Requester) (tag : Fin 4) (s : State) : Result :=
  let id : EntryId := { requester := requester, tag := tag }
  .next (expire ((s.findEntry id).bind Entry.holdLeft) (State.holdExpired id) s)

end Sys2Proof.Machine
end

