-- ==== Sys2Proof/Machine/BitOps.lean ====
section
/-! DEFINITION. The bit-operation unit: the operations (R87), the slots (R89, R90) and the response word
(R95). -/

namespace Sys2Proof.Machine

open Sys2Proof

/-- Table 5-3: whether the operation writes, by the old bit. -/
def BitOp.writes (op : BitOp) (old : Bool) : Bool :=
  match op with
  | .test => false
  | .set => !old
  | .clear => old
  | .change => true

/-- R87: the new word, which "equals the fetched word in all bits but the entry's bit"; Table 5-3's write
always turns that bit over. -/
def BitOp.newWord (op : BitOp) (bit : Fin 32) (word : Word) : Word :=
  if op.writes (word.getLsbD bit.val) then word ^^^ (1#32 <<< bit.val) else word

/-- R92: what the slot stores at the fetch answer. -/
def fetchedOf (op : BitOp) (bit : Fin 32) (word : Word) : Fetched :=
  { word := word, newWord := op.newWord bit word, write := op.writes (word.getLsbD bit.val) }

/-- R95: bit 0 the old value of the entry's bit, bit 1 whether a write-back was performed. -/
def responseWord (bit : Fin 32) (f : Fetched) : Word :=
  (if f.word.getLsbD bit.val then 1 else 0) + (if f.write then 2 else 0)

/-- R89, R90: the grant of a bit operation takes a free slot. -/
def State.takeSlot (e : Entry) (n : Fin 8) (s : State) : State :=
  match e.kind.opBit with
  | some (op, bit) =>
    { s with
      slots :=
        s.slots ++
          [{ owner := e.id, dtag := n, word := e.physical, op := op, bit := bit, fetched := none }] }
  | none => s

/-- R92: the unit stores the fetched word, the new word and the decision in the owner's slot. -/
def State.storeFetched (id : EntryId) (f : Fetched) (s : State) : State :=
  { s with slots := s.slots.map (fun x => if x.owner = id then { x with fetched := some f } else x) }

/-- The slot an entry holds. -/
def State.slotOf (s : State) (id : EntryId) : Option Slot := s.slots.find? (fun x => x.owner = id)

/-- R95: the data of a bit operation's OK response: one word for a BIT_READ, none for a BIT_WRITE. -/
def bitResponse (kind : EntryKind) (f : Fetched) : List Word :=
  match kind with
  | .bitRead _ bit => [responseWord bit f]
  | .bitWrite _ _ => []
  | .plainRead => []
  | .plainWrite _ _ => []

end Sys2Proof.Machine
end

