-- ==== Sys2Proof/Machine/MemoryPort.lean ====
section
/-! DEFINITION. The memory port: GRANT, WRITE_BACK_ISSUE, MEMORY_ANSWER, RESPONSE_TIMER_EXPIRY,
END_OF_RECOVERY and FAULT_CLEAR (Chapters 4 and 5; R47, R52 to R54 for the class table at a grant). -/

namespace Sys2Proof.Machine

open Sys2Proof

/-! ## Grant -/

/-- Table 3-3, R96: the words counted at the grant of an entry. -/
def Entry.words (e : Entry) : Nat :=
  match e.kind with
  | .plainRead => e.length
  | .plainWrite _ _ => e.length
  | .bitRead op _ => if op = .test then 1 else 2
  | .bitWrite op _ => if op = .test then 1 else 2

/-- R53: used_now after a grant of `n` words. -/
def usedAfter (c : ClassRecord) (n : Nat) : Nat := min 65535 (c.usedNow + n)

/-- R54: whether the grant of `n` words raises OVERRUN. -/
def overruns (c : ClassRecord) (n : Nat) : Bool :=
  decide (c.mode = .report) && decide (c.budget.toNat < usedAfter c n) && !c.overrun

/-- R52 to R54: the class record after the grant of `n` words. -/
def ClassRecord.charged (c : ClassRecord) (n : Nat) : ClassRecord :=
  { c with
    credit := if c.mode = .enforce then c.credit - n else c.credit,
    usedNow := usedAfter c n,
    overrun := c.overrun || overruns c n }

/-- R72, step 1: the class table debits the entry's class and counts its words, and may raise OVERRUN. -/
def State.charge (e : Entry) (s : State) : State :=
  let c := s.classTable.classes[e.cls]
  let s' := s.setClass e.cls (c.charged e.words)
  if overruns c e.words then s'.report .overrun (e.detail none) else s'

/-- R67: the phase of the tag at the grant. -/
def EntryKind.grantPhase : EntryKind → Phase
  | .plainRead => .read
  | .plainWrite _ _ => .write
  | .bitRead _ _ => .fetch
  | .bitWrite _ _ => .fetch

/-- R30: the entry's state at the grant. -/
def EntryKind.grantState : EntryKind → EntryState
  | .plainRead => .issued
  | .plainWrite _ _ => .issued
  | .bitRead _ _ => .fetching
  | .bitWrite _ _ => .fetching

/-- R64: the downstream request of an entry's grant; a bit operation's is its fetch (R91). -/
def Entry.request (e : Entry) (n : Fin 8) : MemRequest :=
  match e.kind with
  | .plainRead =>
    { tag := n, direction := .read, address := e.physical, length := e.length, byteEnables := none,
      data := [] }
  | .plainWrite be data =>
    { tag := n, direction := .write, address := e.physical, length := e.length, byteEnables := be,
      data := data }
  | .bitRead _ _ =>
    { tag := n, direction := .read, address := e.physical, length := 1, byteEnables := none,
      data := [] }
  | .bitWrite _ _ =>
    { tag := n, direction := .read, address := e.physical, length := 1, byteEnables := none,
      data := [] }

/-- R68, R72, R73: the response limit as it stands, with the response timer at zero. -/
def State.issuedNow (s : State) : Option Issued :=
  some { limit := s.settings.responseLimit, timer := 0 }

/-- R72: the grant of entry `e` on tag `n`, all as part of one event. -/
def State.grantEntry (e : Entry) (n : Fin 8) (s : State) : State :=
  ((((s.charge e).takeSlot e n).setTag n (.busy e.id e.kind.grantPhase s.issuedNow)).updateEntry e.id
      (fun x => { x with state := x.kind.grantState, dtag := some n })).issue (e.request n)

/-- GRANT (R69 to R72): "Each grant issues exactly one entry"; "When no entry is eligible, the arbiter makes
no grant". -/
def execGrant (memReady : Bool) (s : State) : Result :=
  let s1 := s.sampleReady memReady
  match if s1.arbiterOpen then s1.choice else none, s1.lowestFree with
  | some e, some n => .next (s1.grantEntry e n).judge
  | some _, none => .next s1
  | none, _ => .next s1

/-! ## Write-back -/

/-- R64: the downstream request of a write-back. -/
def Slot.request (x : Slot) : MemRequest :=
  { tag := x.dtag, direction := .write, address := x.word, length := 1, byteEnables := some 15,
    data := (x.fetched.map Fetched.newWord).toList }

/-- R73, R93: the write-back of tag `n` is issued: its phase is WRITE_BACK, it takes the response limit as
it stands, and its response timer restarts at zero. -/
def State.issueWriteBack (n : Fin 8) (rest : List (Fin 8)) (s : State) : State :=
  let s1 := { s with mem := { s.mem with writeBacks := rest } }
  match s.mem.tags[n] with
  | .busy owner _ _ =>
    let s2 := s1.setTag n (.busy owner .writeBack s.issuedNow)
    match s.slotOf owner with
    | some x => s2.issue x.request
    | none => s2
  | .free => s1
  | .quarantined => s1

/-- WRITE_BACK_ISSUE (R73, R93): write-backs are issued "in the order in which their fetch answers were
taken", as soon as memory's request channel is ready. -/
def execWriteBackIssue (memReady : Bool) (s : State) : Result :=
  let s1 := s.sampleReady memReady
  match s1.mem.writeBacks with
  | [] => .next s1
  | n :: rest => if memReady then .next (s1.issueWriteBack n rest) else .next s1

/-! ## Answers -/

/-- R78, R101: the detail of a stray answer. -/
def strayDetail : Detail := { Detail.empty with code := some .stray }

/-- R78, R101: a stray answer is discarded, and MEM_ERROR receives an occurrence. -/
def State.stray (s : State) : State := s.report .memError strayDetail

/-- R75, R76: the end of an access in failure, once its tag has its new state. -/
def State.failAccess (e : Entry) (p : Phase) (o : UpOutcome) (src : Source) (s : State) : State :=
  ((s.releaseSlot e.id).complete e o [] false).report src (e.accessDetail p)

/-- R92: a fetch answered OK with `word`, for tag `n` of entry `e` with operation `op` on `bit`. -/
def State.fetchAnswered (n : Fin 8) (e : Entry) (op : BitOp) (bit : Fin 32) (word : Word)
    (s : State) : State :=
  let f := fetchedOf op bit word
  if f.write then
    let s1 := (s.storeFetched e.id f).updateEntry e.id (fun x => { x with state := .writingBack })
    let s2 := s1.setTag n (.busy e.id .writeBack none)
    { s2 with mem := { s2.mem with writeBacks := s2.mem.writeBacks ++ [n] } }
  else ((s.setTag n .free).releaseSlot e.id).complete e .ok (bitResponse e.kind f) false

/-- R94: a write-back answered OK; the response is built from the slot (R95). -/
def State.writeBackAnswered (n : Fin 8) (e : Entry) (s : State) : State :=
  let data := (((s.slotOf e.id).bind Slot.fetched).map (bitResponse e.kind)).getD []
  ((s.setTag n .free).releaseSlot e.id).complete e .ok data true

/-- R39, R65, R74: the words that an OK answer with words `data` gives an access of `n` words. The part
"matches an answer to an access by its downstream tag alone", so an answer can carry another number
of words than the access asked for (R78: memory answers twice, or after a recovery, on a tag granted
again). The access still has its `n` words, and what they are is free (log 18). -/
def State.answerWords (n : Nat) (data : List Word) (s : State) : List Word :=
  if data.length = n then data else (List.range n).map (Config.answerWord s.freeCount)

/-- A free value is used only when the number of words is not the access's. -/
def State.countAnswer (n : Nat) (data : List Word) (s : State) : State :=
  if data.length = n then s else s.countFree

/-- R74, READ: the words are the response data, and the tag becomes FREE. -/
def State.readAnswered (n : Fin 8) (e : Entry) (data : List Word) (s : State) : State :=
  ((s.countAnswer e.length data).setTag n .free).complete e .ok (s.answerWords e.length data) false

/-- R74, FETCH: the one word goes to the bit-operation unit. A tag in phase FETCH whose owner is no bit
operation is in no state that a run reaches; its answer frees it (log 13). -/
def State.fetchTaken (n : Fin 8) (e : Entry) (data : List Word) (s : State) : State :=
  match e.kind.opBit with
  | some (op, bit) =>
    (s.countAnswer 1 data).fetchAnswered n e op bit ((s.answerWords 1 data).headD 0)
  | none => s.setTag n .free

/-- R74: an OK answer to the issued access of tag `n`, in phase `p`, of entry `e`. -/
def State.answerOk (n : Fin 8) (e : Entry) (p : Phase) (data : List Word) (s : State) : State :=
  match p with
  | .read => s.readAnswered n e data
  | .write => (s.setTag n .free).complete e .ok [] true
  | .fetch => s.fetchTaken n e data
  | .writeBack => s.writeBackAnswered n e

/-- R74, R75: an answer to the issued access of tag `n`. -/
def State.answerAccess (n : Fin 8) (e : Entry) (p : Phase) (outcome : AnswerOutcome)
    (data : List Word) (s : State) : State :=
  match outcome with
  | .ok => s.answerOk n e p data
  | .error => (s.setTag n .free).failAccess e p .memError .memError

/-- MEMORY_ANSWER (R65, R74 to R78, R82, R83, R101): by the port state and the tag's state. A BUSY tag
whose owner is not in the queue is in no state that a run reaches; its answer frees it (log 13). -/
def execMemoryAnswer (n : Fin 8) (outcome : AnswerOutcome) (data : List Word) (s : State) : Result :=
  if s.resetAsserted = true ∨ s.mem.port = .recovering then .next s
  else
    match s.mem.tags[n] with
    | .free => .next s.stray.judge
    | .quarantined => .next (s.setTag n .free)
    | .busy _ _ none => .next s.stray.judge
    | .busy owner p (some _) =>
      match s.findEntry owner with
      | some e => .next (s.answerAccess n e p outcome data).judge
      | none => .next (s.setTag n .free)

/-! ## Timeouts, stall and recovery -/

/-- R76, step 4; R79: when all eight tags are QUARANTINED the port changes from RUNNING to STALLED. -/
def State.stallIfNoTag (s : State) : State :=
  if s.mem.port = .running ∧ s.countTags .quarantined = 8 then
    { s with mem := { s.mem with port := .stalled } }
  else s

/-- R76: the expiry of the response timer of tag `n`. -/
def State.timeOut (n : Fin 8) (s : State) : State :=
  match s.mem.tags[n] with
  | .busy owner p _ =>
    let s1 := s.setTag n .quarantined
    match s1.findEntry owner with
    | some e => (s1.failAccess e p .memTimeout .memTimeout).stallIfNoTag.judge
    | none => s1.stallIfNoTag.judge
  | .free => s
  | .quarantined => s

/-- RESPONSE_TIMER_EXPIRY (R76). -/
def execResponseTimerExpiry (n : Fin 8) (s : State) : Result :=
  .next (expire s.mem.tags[n].responseLeft (State.timeOut n) s)

/-- R82: recovery ends: MRSTN is released, all eight tags become FREE, the port is RUNNING. -/
def State.recover (s : State) : State :=
  ({ s with
      mem :=
        { s.mem with
          mrstn := false, tags := Vector.replicate 8 .free, port := .running } } : State).judge

/-- END_OF_RECOVERY (R82). -/
def execEndOfRecovery (s : State) : Result := .next (expire s.recoveryLeft State.recover s)

/-- R81: on a STALLED port, RECOVERING: MRSTN asserted, the recovery timer started; otherwise BUSY. -/
def State.faultClear (s : State) : State × Reply :=
  if s.mem.port = .stalled then
    (({ s with mem := { s.mem with port := .recovering, mrstn := true, recoveryTimer := 0 } } :
        State).judge,
      .done [])
  else (s, .busy)

/-- FAULT-CLEAR (R81, R176). -/
def execFaultClear (s : State) : Result := serve s State.faultClear

end Sys2Proof.Machine
end

