-- ==== Sys2Proof/Machine/Monitor.lean ====
section
/-! DEFINITION. Monitor access: MONITOR_READ, MONITOR_WRITE, MONITOR_RESULT (R40, R177 to R180). -/

namespace Sys2Proof.Machine

open Sys2Proof

/-- R40, R178: the entry of the monitor requester is admitted and the record becomes BUSY, with outcome none
and data 0; the reply carries the admission stamp. The order of the checks is R178's. -/
def State.monitorAccess (address : Word) (kind : EntryKind) (s : State) : State × Reply :=
  if aligned address = false then (s, .range)
  else if s.service.monitor.state = .busy ∨ queueDepth ≤ s.queue.entries.length then (s, .busy)
  else
    (((s.enqueue .monitor 0 address .monitor kind address 1 s.settings.monitorClass).setMonitor
        { state := .busy, outcome := none, data := 0 }).judge,
      .done (be2 s.queue.stamp))

/-- MONITOR-READ (R40, R178). -/
def execMonitorRead (address : Word) (s : State) : Result :=
  serve s (State.monitorAccess address .plainRead)

/-- MONITOR-WRITE (R40, R178): the whole word, with all four byte enables set. -/
def execMonitorWrite (address data : Word) (s : State) : Result :=
  serve s (State.monitorAccess address (.plainWrite (some 15) [data]))

/-- R180: a DONE record returns to IDLE, the reply still carrying it. -/
def State.collectMonitor (s : State) : State × Reply :=
  if s.service.monitor.state = .done then
    (s.setMonitor MonitorRecord.reset, .done s.service.monitor.bytes)
  else (s, .done s.service.monitor.bytes)

/-- MONITOR-RESULT (R180). -/
def execMonitorResult (s : State) : Result := serve s State.collectMonitor

end Sys2Proof.Machine
end

