-- ==== Sys2Proof/Machine/Reset.lean ====
section
/-! DEFINITION. RESETN: HARD_RESET and RESETN_RELEASE (R3, R45, R48, R55, R83, R89, R103, R149, R150, R168,
R177). -/

namespace Sys2Proof.Machine

open Sys2Proof

/-- The state while RESETN is asserted: every block in its reset state, MRSTN asserted. What is outside the
part stays: the commands that wait, the requests offered on the channel (ready is deasserted and none
is taken, R25), SSN's level (R168), memory's ready, and the records of what has been sent. -/
def State.asserted (s : State) : State :=
  { State.reset with
    pending := s.pending, freeCount := s.freeCount, resetAsserted := true,
    upstream :=
      { State.reset.upstream with
        offered := s.upstream.offered, responses := s.upstream.responses },
    mem :=
      { State.reset.mem with
        mrstn := true, ready := s.mem.ready, requests := s.mem.requests },
    service :=
      { State.reset.service with ssnLow := s.service.ssnLow, shifted := s.service.shifted } }

/-- HARD_RESET (R45): entries are removed without completion; no response is sent and no event is
reported. -/
def execHardReset (s : State) : Result := .next s.asserted

/-- RESETN_RELEASE (R83, R55): MRSTN is released and the first service interval begins, with the length of
the interval setting. Without RESETN asserted there is no release. -/
def execResetnRelease (s : State) : Result :=
  if s.resetAsserted then
    .next
      { s with
        resetAsserted := false,
        mem := { s.mem with mrstn := false },
        classTable := { s.classTable with length := s.settings.interval, timer := 0 } }
  else .next s

end Sys2Proof.Machine
end

