-- ==== Sys2Proof/Machine/Events.lean ====
section
/-! DEFINITION. The event commands: EVENT_SETUP, EVENT_TAKE, EVENT_RESTORE, EVENT_FLOOR, EVENT_CLEAR,
EVENT_PEEK (R137 to R148). -/

namespace Sys2Proof.Machine

open Sys2Proof

/-- A source number of 1-12: not FAULT, not above 12 (R137). -/
def settableSource (b : Byte) : Option Source :=
  if h : 1 ≤ b.toNat ∧ b.toNat < 13 then some (Source.ofVector ⟨b.toNat, h.2⟩) else none

/-- R137. -/
def State.setupEvent (source level : Byte) (s : State) : State × Reply :=
  match settableSource source with
  | some src =>
    if level.toNat ≤ 7 then
      ((s.setSource src { s.source src with level := level.toNat }).judge, .done [])
    else (s, .range)
  | none => (s, .range)

/-- EVENT-SETUP (R137, R175). -/
def execEventSetup (source level : Byte) (s : State) : Result := serve s (State.setupEvent source level)

/-- R141: among the pending sources above the floor, the one with the highest level, and of several the
one with the lowest vector. -/
def State.selected (s : State) : Option Source :=
  pickMax (fun src => (s.source src).level) (Source.all.filter s.aboveFloor)

/-- A snapshot that names nothing but a number (R44, R80). -/
def numberDetail (n : Nat) : Detail := { Detail.empty with code := some (.number n) }

/-- R116: the detail of APERTURE_END, which names the lowest-numbered window whose cursor is EXHAUSTED and
counts them. -/
def State.apertureDetail (s : State) : Detail :=
  match s.exhausted with
  | [] => Detail.empty
  | w :: rest =>
    { requester := none, address := s.windows[w].base, window := some (.window w),
      cls := some s.windows[w].cls, code := some (.number (rest.length + 1)) }

/-- R156: the detail of DRAIN. STUCK names the oldest entry of a masked requester. -/
def State.drainDetail (s : State) : Detail :=
  match s.drain.state with
  | .stuck =>
    match s.queue.entries.find? (fun e => inMask s.drain.mask e.requester) with
    | some e => e.detail (some .stuck)
    | none => { Detail.empty with code := some .stuck }
  | .drained => { Detail.empty with code := some .drained }
  | .none => Detail.empty
  | .draining => Detail.empty

/-- R135, R142: the detail in the reply: a level source's is formed by its owner now, an edge source's is
the stored one. -/
def State.takeDetail (s : State) (src : Source) : Detail :=
  match src with
  | .fault => numberDetail (s.countTags .quarantined)
  | .apertureEnd => s.apertureDetail
  | .drain => s.drainDetail
  | .queueHigh => numberDetail s.queue.entries.length
  | .memError => (s.source .memError).detail
  | .memTimeout => (s.source .memTimeout).detail
  | .denied => (s.source .denied).detail
  | .refused => (s.source .refused).detail
  | .holdTimeout => (s.source .holdTimeout).detail
  | .overrun => (s.source .overrun).detail
  | .watch => (s.source .watch).detail
  | .interval => (s.source .interval).detail
  | .monitorDone => (s.source .monitorDone).detail

/-- R142: the count in the reply. -/
def State.takeCount (s : State) (src : Source) : Nat :=
  if src.isLevel then 0 else (s.source src).count

/-- R142: an edge source is emptied by the take; a level source stays pending. -/
def State.emptyIfEdge (src : Source) (s : State) : State :=
  if src.isLevel then s else s.setSource src (s.source src).emptied

/-- R142: the present floor is pushed on top of the floor stack and the floor becomes `level`. -/
def State.raiseFloor (level : Nat) (s : State) : State :=
  { s with events := { s.events with stack := s.events.floor :: s.events.stack, floor := level } }

/-- R141 to R143. -/
def State.takeEvent (s : State) : State × Reply :=
  if 4 ≤ s.events.stack.length then (s, .done (eventReply 15 0 0 true Detail.empty))
  else
    match s.selected with
    | none => (s, .done (eventReply 15 0 0 false Detail.empty))
    | some src =>
      (((s.raiseFloor (s.source src).level).emptyIfEdge src).judge,
        .done
          (eventReply src.vector.val (s.source src).level (s.takeCount src) false
            (s.takeDetail src)))

/-- EVENT-TAKE (R141 to R144, R175). -/
def execEventTake (s : State) : Result := serve s State.takeEvent

/-- R145. -/
def State.restoreFloor (s : State) : State × Reply :=
  match s.events.stack with
  | [] => (s, .range)
  | top :: rest =>
    (({ s with events := { s.events with floor := top, stack := rest } } : State).judge,
      .done [byteOf top])

/-- EVENT-RESTORE (R145, R175). -/
def execEventRestore (s : State) : Result := serve s State.restoreFloor

/-- R146. -/
def State.writeFloor (value : Byte) (s : State) : State × Reply :=
  if value.toNat ≤ 7 then
    (({ s with events := { s.events with floor := value.toNat } } : State).judge, .done [])
  else (s, .range)

/-- EVENT-FLOOR (R146, R175). -/
def execEventFloor (value : Byte) (s : State) : Result := serve s (State.writeFloor value)

/-- R147: every edge source whose flag is set and that is pending is emptied. -/
def State.clearRecord (s : State) (mask : Half) (i : Fin 13) : SourceRecord :=
  if (Source.ofVector i).isLevel = false ∧ mask.getLsbD i.val = true ∧
      s.events.sources[i].pending = true then
    s.events.sources[i].emptied
  else s.events.sources[i]

/-- R147. -/
def State.clearEvents (mask : Half) (s : State) : State × Reply :=
  (({ s with
      events := { s.events with sources := Vector.ofFn fun i => s.clearRecord mask i } } :
      State).judge,
    .done [])

/-- EVENT-CLEAR (R147, R175). -/
def execEventClear (mask : Half) (s : State) : Result := serve s (State.clearEvents mask)

/-- R181: the pending set as a number, bit n standing for vector n. -/
def State.pendingSet (s : State) : Nat :=
  (Source.all.map
    (fun src => if (s.source src).pending then 2 ^ src.vector.val else 0)).sum

/-- R148: the pending set, the floor and the depth of the floor stack. -/
def State.peekBytes (s : State) : List Byte :=
  bytes2 s.pendingSet ++ [byteOf s.events.floor, byteOf s.events.stack.length]

/-- R148. -/
def State.peekEvents (s : State) : State × Reply := (s, .done s.peekBytes)

/-- EVENT-PEEK (R148, R175). -/
def execEventPeek (s : State) : Result := serve s State.peekEvents

end Sys2Proof.Machine
end

