-- ==== Sys2Proof/Machine/Service.lean ====
section
/-! DEFINITION. Frames (R163 to R166), STATUS (R169) and QUEUE_READ (R46, R170). -/

namespace Sys2Proof.Machine

open Sys2Proof

/-- R163: SSN falls. A frame begins, in state COMMAND; under RESETN the frame state stays IDLE (R168).
When SSN is low already it cannot fall (R168: "the port stays IDLE until SSN has risen and fallen
again"). -/
def execFrameStart (s : State) : Result :=
  if s.service.ssnLow then .next s
  else
    .next
      { s with
        service :=
          { s.service with
            ssnLow := true, bits := [], stored := [],
            frame := if s.resetAsserted then .idle else .command } }

/-- Table 10-2, column "At SSN rising": the frame state becomes IDLE; bits and bytes of a command that was
not taken are dropped (R164); of the reply, `sent` whole bytes more were shifted out and the rest is
lost (R165). -/
def State.raiseSsn (sent : Nat) (s : State) : State :=
  { s with
    service :=
      { s.service with
        ssnLow := false, frame := .idle, bits := [], stored := [], reply := [],
        shifted := s.service.shifted ++ s.service.reply.take sent } }

/-- SSN rises while the frame state is `f`. In a frame that a reset abandoned the state is IDLE with SSN
low, and SSN's rising ends it whichever row names the edge (R168). -/
def ssnRises (f : FrameState) (sent : Nat) (s : State) : Result :=
  if s.service.ssnLow = true ∧ (s.service.frame = f ∨ s.service.frame = .idle) then
    .next (s.raiseSsn sent)
  else .next s

/-- FRAME_DISCARD (R164): "No command is taken, no state of the part changes, no reply is sent and no event
is reported." -/
def execFrameDiscard (s : State) : Result := ssnRises .command 0 s

/-- REPLY_LOST (R165): "The reply bytes not yet sent are lost". -/
def execReplyLost (sent : Nat) (s : State) : Result := ssnRises .reply sent s

/-- FRAME_END (R163). -/
def execFrameEnd (s : State) : Result := ssnRises .trail 0 s

/-- END_OF_REPLY (R163): what was left of the reply has been shifted out and the state becomes TRAIL. -/
def execEndOfReply (s : State) : Result :=
  if s.service.frame = .reply then
    .next
      { s with
        service :=
          { s.service with
            frame := .trail, bits := [], reply := [],
            shifted := s.service.shifted ++ s.service.reply } }
  else .next s

/-- UNKNOWN_COMMAND (R166): the reply is the outcome byte UNKNOWN alone; nothing else changes. -/
def execUnknownCommand (code : Byte) (s : State) : Result :=
  if (ServiceCode.ofByte code).isNone then serve s (fun t => (t, .unknown))
  else .fault .codeNamesCommand

/-- Table 10-10. -/
def State.statusBytes (s : State) : List Byte :=
  [byteOf s.queue.entries.length, byteOf (s.countTags .free), byteOf (s.countTags .busy),
    byteOf (s.countTags .quarantined), s.mem.port.byte, byteOf s.slots.length, s.drain.state.byte,
    s.drain.mask, s.service.monitor.state.byte, byteOf s.events.floor,
    byteOf s.events.stack.length] ++ bytes2 s.pendingSet

/-- R169. -/
def State.readStatus (s : State) : State × Reply := (s, .done s.statusBytes)

/-- STATUS (R169). -/
def execStatus (s : State) : Result := serve s State.readStatus

/-- R46: the hold reason of a WAITING entry, none once granted. -/
def State.shownReason (s : State) (e : Entry) : Option HoldReason :=
  if e.state = .waiting then some (s.holdReason e) else none

/-- R46, R170. -/
def State.readQueue (position : Byte) (s : State) : State × Reply :=
  if position.toNat < queueDepth then
    match s.queue.entries[position.toNat]? with
    | some e => (s, .done (e.bytes (s.shownReason e)))
    | none => (s, .done (List.replicate 24 0))
  else (s, .range)

/-- QUEUE-READ (R46, R170). -/
def execQueueRead (position : Byte) (s : State) : Result := serve s (State.readQueue position)

end Sys2Proof.Machine
end

