-- ==== Sys2Proof/Machine/Settings.lean ====
section
/-! DEFINITION. SETTINGS_WRITE, SETTINGS_READ and DEFAULTS (R159 to R161, R174). -/

namespace Sys2Proof.Machine

open Sys2Proof

/-- R174: all eight settings take the values written, as one event, and QUEUE_HIGH is judged again. -/
def State.writeSettings (b : SettingsBytes) (s : State) : State × Reply :=
  match settingsOfBytes b with
  | some r => (({ s with settings := r } : State).judge, .done [])
  | none => (s, .range)

/-- SETTINGS-WRITE (R174). -/
def execSettingsWrite (record : SettingsBytes) (s : State) : Result :=
  serve s (State.writeSettings record)

/-- R174. -/
def State.readSettings (s : State) : State × Reply := (s, .done s.settings.bytes)

/-- SETTINGS-READ (R174). -/
def execSettingsRead (s : State) : Result := serve s State.readSettings

/-- R159: the drain is DRAINED, its mask names all eight requesters, and the queue holds no entry. -/
def State.defaultsAllowed (s : State) : Bool :=
  decide (s.drain.state = .drained) && decide (s.drain.mask = 0xFF) && s.queue.entries.isEmpty

/-- R160: windows, cursors, classes and settings take their reset values; the level sources are judged
again. The interval in progress keeps its length (R56). -/
def State.restoreDefaults (s : State) : State × Reply :=
  if s.defaultsAllowed then
    (({ s with
        windows := Vector.replicate 16 WindowRecord.zeroed,
        cursors := Vector.replicate 16 none,
        classTable := { s.classTable with classes := Vector.replicate 8 ClassRecord.reset },
        settings := Settings.reset } : State).judge,
      .done [])
  else (s, .busy)

/-- DEFAULTS (R159, R160, R176). -/
def execDefaults (s : State) : Result := serve s State.restoreDefaults

end Sys2Proof.Machine
end

