-- ==== Sys2Proof/Machine/Decoder.lean ====
section
/-! DEFINITION. The window decoder: lookup, the checks of Table 1-3 in order, and the translations of PASS,
RING, APERTURE and BITOP windows (Chapters 1, 5, 6 and 7). -/

namespace Sys2Proof.Machine

open Sys2Proof

/-- R1: the record is valid and base ≤ A < base + size. -/
def WindowRecord.contains (r : WindowRecord) (a : Nat) : Bool :=
  r.valid && decide (r.base.toNat ≤ a) && decide (a < r.base.toNat + r.size.toNat)

/-- R13: the valid record with the lowest window number that contains the address; none is the default
route. -/
def State.lookup (s : State) (a : Nat) : Option (Fin 16) :=
  (List.finRange 16).find? (fun w => s.windows[w].contains a)

/-- R14: the address of the last word of a request, not wrapped. -/
def lastWord (r : Request) : Nat := r.address.toNat + 4 * (r.length - 1)

/-- R14: the last word lies in the window. -/
def windowSpanOk (w : WindowRecord) (r : Request) : Bool :=
  decide (lastWord r < w.base.toNat + w.size.toNat)

/-- R15: no word of the request lies in a valid window, and the words do not run past the top of the
address space. -/
def State.defaultSpanOk (s : State) (r : Request) : Bool :=
  (List.range r.length).all (fun i => (s.lookup (r.address.toNat + 4 * i)).isNone) &&
    decide (r.address.toNat + 4 * r.length ≤ addressSpace)

/-- R16: the window's permit for the request's direction. -/
def permitted (w : WindowRecord) (r : Request) : Bool :=
  match r.direction with
  | .read => w.readPermit.getLsbD r.requester.val
  | .write => w.writePermit.getLsbD r.requester.val

/-- The offset of the request's first word in its window. -/
def offsetIn (w : WindowRecord) (r : Request) : Nat := r.address.toNat - w.base.toNat

/-! ## RING (R123, R124) -/

/-- The block size B = 2ᵏ. -/
def WindowRecord.blockSize (w : WindowRecord) : Nat := 2 ^ w.ringK

/-- The rotating count M = N − H − T. -/
def WindowRecord.rotating (w : WindowRecord) : Nat := w.ringN - w.ringH - w.ringT

/-- R124: the physical block of a logical block. -/
def ringBlock (w : WindowRecord) (b : Nat) : Nat :=
  if b < w.ringH ∨ w.ringN - w.ringT ≤ b then b
  else w.ringH + (b - w.ringH + w.ringS) % w.rotating

/-- R124: the physical address of the byte at an offset of a RING window. -/
def ringAddress (w : WindowRecord) (o : Nat) : Word :=
  BitVec.ofNat 32
    (w.target.toNat + ringBlock w (o / w.blockSize) * w.blockSize + o % w.blockSize)

/-- R17, step 3: the first and the last word lie in one block. -/
def ringContained (w : WindowRecord) (r : Request) : Bool :=
  decide (offsetIn w r / w.blockSize = (lastWord r - w.base.toNat) / w.blockSize)

/-! ## BITOP (R85) -/

/-- Table 5-1: the op of an alias number's quotient by 32. -/
def BitOp.ofIndex : Nat → BitOp
  | 0 => .test
  | 1 => .set
  | 2 => .clear
  | _ => .change

/-- Table 5-1: the alias number e of an offset. -/
def aliasNumber (o : Nat) : Nat := o % 512 / 4

/-- Table 5-1: the op of an offset. -/
def aliasOp (o : Nat) : BitOp := BitOp.ofIndex (aliasNumber o / 32)

/-- Table 5-1: the bit of an offset. -/
def aliasBit (o : Nat) : Fin 32 := ⟨aliasNumber o % 32, Nat.mod_lt _ (by decide)⟩

/-- Table 5-1: the physical word of an offset. -/
def aliasWord (w : WindowRecord) (o : Nat) : Word :=
  BitVec.ofNat 32 (w.target.toNat + 4 * (o / 512))

/-! ## APERTURE (R104, R108, R111 to R113) -/

/-- R104: the physical address of a cell. -/
def cellAddress (w : WindowRecord) (row column : Nat) : Word :=
  BitVec.ofNat 32 (w.target.toNat + row * w.pitch.toNat + 4 * column)

/-- The last cell, (rows − 1, columns − 1). -/
def atLastCell (w : WindowRecord) (c : Cursor) : Bool :=
  decide (c.row = w.rows - 1) && decide (c.column = w.columns - 1)

/-- R111 to R113, Table 6-4: the cursor after a claim of its current cell. -/
def advanceCursor (w : WindowRecord) (c : Cursor) : Cursor :=
  if atLastCell w c then
    match w.endPolicy with
    | .wrap => Cursor.start
    | .stop => { c with exhausted := true }
  else
    match w.scan with
    | .rowMajor =>
      if c.column < w.columns - 1 then { c with column := c.column + 1 }
      else { c with row := c.row + 1, column := 0 }
    | .columnMajor =>
      if c.row < w.rows - 1 then { c with row := c.row + 1 }
      else { c with row := 0, column := c.column + 1 }

/-- Table 6-3: the POSITION response word. -/
def positionWord (c : Cursor) : Word :=
  BitVec.ofNat 32 (c.row * 65536 + c.column * 16 + if c.exhausted then 1 else 0)

/-- The cursor of a window. Every valid APERTURE window has one (R103); where there is none, the cursor at
the start stands in, in states that no run reaches. -/
def State.cursorOf (s : State) (w : Fin 16) : Cursor := s.cursors[w].getD Cursor.start

/-! ## The decoder's verdict -/

/-- Why a request is refused at decode (R18). -/
inductive Refused where
  | split
  | denied
  | unsupported
  | apertureEnd
  deriving DecidableEq, Repr

/-- What the decoder makes of a request: refused; answered at once (POSITION, REWIND); or admitted at a
physical address as a PLAIN entry (`claim` when a cursor cell is claimed, with whether the cursor
advances) or as a bit operation. -/
inductive Verdict where
  | refuse (why : Refused)
  | position (w : Fin 16)
  | rewind (w : Fin 16)
  | plain (physical : Word)
  | claim (w : Fin 16) (physical : Word) (advance : Bool)
  | bit (physical : Word) (op : BitOp) (bit : Fin 32)
  deriving DecidableEq, Repr

/-- R17, R106 to R109: a single-word request to aperture window `w` that passed the permit check. -/
def State.apertureVerdict (s : State) (w : Fin 16) (r : Request) : Verdict :=
  let c := s.cursorOf w
  let stream (advance : Bool) : Verdict :=
    if c.exhausted then .refuse .apertureEnd
    else .claim w (cellAddress s.windows[w] c.row c.column) advance
  match offsetIn s.windows[w] r with
  | 0 => stream true
  | 4 => stream (decide (r.direction = .write))
  | 8 => if r.direction = .read then .position w else .rewind w
  | _ => .refuse .unsupported

/-- R17, R19, R20: the checks of the window's kind and the translation. -/
def State.kindVerdict (s : State) (w : Fin 16) (r : Request) : Verdict :=
  let rec' := s.windows[w]
  match rec'.kind with
  | .pass => .plain (rec'.target + (r.address - rec'.base))
  | .ring =>
    if ringContained rec' r then .plain (ringAddress rec' (offsetIn rec' r)) else .refuse .split
  | .aperture => if 1 < r.length then .refuse .unsupported else s.apertureVerdict w r
  | .bitop =>
    if 1 < r.length then .refuse .unsupported
    else
      .bit (aliasWord rec' (offsetIn rec' r)) (aliasOp (offsetIn rec' r))
        (aliasBit (offsetIn rec' r))

/-- Table 1-3: the decode of a request. "The first check that fails decides the outcome." -/
def State.decode (s : State) (r : Request) : Verdict :=
  match s.lookup r.address.toNat with
  | none =>
    if s.defaultSpanOk r = false then .refuse .split
    else if s.settings.deny then .refuse .denied
    else .plain r.address
  | some w =>
    if windowSpanOk s.windows[w] r = false then .refuse .split
    else if permitted s.windows[w] r = false then .refuse .denied
    else s.kindVerdict w r

/-- R4, R19: the origin of a request's entry. -/
def State.originOf (s : State) (r : Request) : Origin :=
  match s.lookup r.address.toNat with
  | none => .default
  | some w => .window w

/-- R4, R19: the class of a request's entry. -/
def State.classOf (s : State) (r : Request) : Fin 8 :=
  match s.lookup r.address.toNat with
  | none => s.settings.defaultClass
  | some w => s.windows[w].cls

end Sys2Proof.Machine
end

