-- ==== Sys2Proof/Machine/Upstream.lean ====
section
/-! DEFINITION. The upstream port: REQUEST_TAKE (R22 to R29, R18 to R20, R106 to R115). -/

namespace Sys2Proof.Machine

open Sys2Proof

/-- R23: the response of a request answered at take or decode. -/
def State.respondAtOnce (r : Request) (o : UpOutcome) (data : List Word) (s : State) : State :=
  s.respond { requester := r.requester, tag := r.tag, outcome := o, data := data }

/-- Table 2-3. -/
def Refused.outcome : Refused → UpOutcome
  | .split => .split
  | .denied => .denied
  | .unsupported => .unsupported
  | .apertureEnd => .apertureEnd

/-- R18: the detail of a refusal. -/
def State.refusalDetail (s : State) (r : Request) (code : Code) : Detail :=
  { requester := some (.bus r.requester), address := r.address, window := (s.originOf r).ref,
    cls := some (s.classOf r), code := some code }

/-- R18: each refusal, except APERTURE_END, reports one occurrence. -/
def State.reportRefusal (r : Request) (why : Refused) (s : State) : State :=
  match why with
  | .split => s.report .refused (s.refusalDetail r .split)
  | .unsupported => s.report .refused (s.refusalDetail r .unsupported)
  | .denied =>
    s.report .denied
      (s.refusalDetail r (if s.originOf r = .default then .routeDeny else .permit))
  | .apertureEnd => s

/-- R19: PLAIN_READ for READ; PLAIN_WRITE for WRITE, with the request's byte enables and data. -/
def plainKind (r : Request) : EntryKind :=
  match r.direction with
  | .read => .plainRead
  | .write => .plainWrite r.byteEnables r.data

/-- R86: BIT_READ for READ, BIT_WRITE for WRITE; the write data and byte enables are set aside. -/
def bitKind (r : Request) (op : BitOp) (bit : Fin 32) : EntryKind :=
  match r.direction with
  | .read => .bitRead op bit
  | .write => .bitWrite op bit

/-- R28: the admission of a request's entry with the fields of R19 and R20. -/
def State.admitRequest (r : Request) (kind : EntryKind) (physical : Word) (s : State) : State :=
  s.enqueue (.bus r.requester) r.tag r.address (s.originOf r) kind physical r.length (s.classOf r)

/-- R18 to R20, R106 to R110: carry out the decoder's verdict. -/
def State.carryOut (r : Request) (v : Verdict) (s : State) : State :=
  match v with
  | .refuse why => (s.reportRefusal r why).respondAtOnce r why.outcome []
  | .position w => s.respondAtOnce r .ok [positionWord (s.cursorOf w)]
  | .rewind w => (s.setCursor w (some Cursor.start)).respondAtOnce r .ok []
  | .plain physical => s.admitRequest r (plainKind r) physical
  | .claim w physical advance =>
    let s' := s.admitRequest r (plainKind r) physical
    if advance then s'.setCursor w (some (advanceCursor s.windows[w] (s.cursorOf w))) else s'
  | .bit physical op bit => s.admitRequest r (bitKind r op bit) physical

/-- R26: the detail of a discard. -/
def tagInUseDetail (r : Request) : Detail :=
  { requester := some (.bus r.requester), address := r.address, window := none, cls := none,
    code := some .tagInUse }

/-- R26, R27, R13: the whole treatment of a taken request (Table 2-4). -/
def State.takeRequest (r : Request) (s : State) : State :=
  if s.tagIsBusy r.requester r.tag then s.report .refused (tagInUseDetail r)
  else if s.drain.state ≠ .none ∧ inMask s.drain.mask (.bus r.requester) = true then
    s.respondAtOnce r .draining []
  else s.carryOut r (s.decode r)

/-- A request comes to stand on the shared channel, behind those that wait there (R25). -/
def State.offer (offer : Option Request) (s : State) : State :=
  { s with upstream := { s.upstream with offered := s.upstream.offered ++ offer.toList } }

/-- R25: the port takes the request at the front of the channel while its ready is held; otherwise the
request waits there, and so does every request behind it. -/
def State.takeFront (s : State) : State :=
  match s.upstream.offered with
  | [] => s
  | r :: rest =>
    if s.upReady then
      (({ s with upstream := { s.upstream with offered := rest } } : State).takeRequest r).judge
    else s

/-- REQUEST_TAKE (R25). -/
def execRequestTake (offer : Option Request) (s : State) : Result :=
  if offer.all Request.wf then .next (s.offer offer).takeFront else .fault .malformedRequest

end Sys2Proof.Machine
end

