-- ==== Sys2Proof/Machine/Windows.lean ====
section
/-! DEFINITION. The window commands: WINDOW_WRITE, WINDOW_READ, CURSOR_SET and ROTATE (R5 to R12, R105,
R117, R127 to R129, R171, R172). -/

namespace Sys2Proof.Machine

open Sys2Proof

/-- R9, R103: the cursor of a window whose record has just been written. -/
def WindowRecord.newCursor (w : WindowRecord) : Option Cursor :=
  if w.valid = true ∧ w.kind = .aperture then some Cursor.start else none

/-- R5, R11: the addressed record is replaced whole, its cursor created, reset or discarded with it, and
APERTURE_END judged again (R116). -/
def State.storeWindow (w : Fin 16) (r : WindowRecord) (s : State) : State :=
  ((s.setWindow w r).setCursor w r.newCursor).judge

/-- R5 to R11, R171. -/
def State.writeWindow (index : Byte) (b : WindowBytes) (s : State) : State × Reply :=
  match below16 index with
  | none => (s, .range)
  | some w =>
    if windowValid b = false then (s.storeWindow w WindowRecord.zeroed, .done [])
    else
      match windowOfBytes b with
      | some r => (s.storeWindow w r, .done [])
      | none => (s, .range)

/-- WINDOW-WRITE (R5 to R11, R171). -/
def execWindowWrite (index : Byte) (record : WindowBytes) (s : State) : Result :=
  serve s (State.writeWindow index record)

/-- R12, R105, R171: the stored record, then the cursor's row, column and state. -/
def State.readWindow (index : Byte) (s : State) : State × Reply :=
  match below16 index with
  | some w => (s, .done (s.windows[w].bytes ++ cursorBytes s.cursors[w]))
  | none => (s, .range)

/-- WINDOW-READ (R12, R105, R171). -/
def execWindowRead (index : Byte) (s : State) : Result := serve s (State.readWindow index)

/-- R117, R172: the cursor is placed on the given cell, READY. -/
def State.placeCursor (index : Byte) (row column : Half) (s : State) : State × Reply :=
  match below16 index with
  | none => (s, .range)
  | some w =>
    if s.windows[w].valid = true ∧ s.windows[w].kind = .aperture ∧
        row.toNat < s.windows[w].rows ∧ column.toNat < s.windows[w].columns then
      ((s.setCursor w
          (some { row := row.toNat, column := column.toNat, exhausted := false })).judge,
        .done [])
    else (s, .range)

/-- CURSOR-SET (R117, R172). -/
def execCursorSet (index : Byte) (row column : Half) (s : State) : Result :=
  serve s (State.placeCursor index row column)

/-- R128, R129: the start a ROTATE gives, `none` when mode or value is out of range. Mode 00h is
ABSOLUTE, 01h ADVANCE (R172). -/
def newStart (w : WindowRecord) (mode value : Byte) : Option Nat :=
  if mode = 0 then if value.toNat < w.rotating then some value.toNat else none
  else if mode = 1 then
    if 1 ≤ value.toNat then some ((w.ringS + value.toNat) % w.rotating) else none
  else none

/-- R127: ROTATE changes the S field alone; the reply carries the start after the command. -/
def State.rotate (index mode value : Byte) (s : State) : State × Reply :=
  match below16 index with
  | none => (s, .range)
  | some w =>
    if s.windows[w].valid = true ∧ s.windows[w].kind = .ring then
      match newStart s.windows[w] mode value with
      | some start =>
        (s.setWindow w { s.windows[w] with ringS := start }, .done [byteOf start])
      | none => (s, .range)
    else (s, .range)

/-- ROTATE (R127 to R130, R172). -/
def execRotate (index mode value : Byte) (s : State) : Result := serve s (State.rotate index mode value)

end Sys2Proof.Machine
end

