-- ==== Sys2Proof/Machine/Dispatch.lean ====
section
/-! DEFINITION. One arm per command: its effect on everything but the queue of commands. -/

namespace Sys2Proof.Machine

open Sys2Proof

def exec (i : Instr) (s : State) : Host.Outcome State Fault Refusal :=
  match i with
  | .requestTake offer => Sys2Proof.Machine.execRequestTake offer s
  | .grant memReady => Sys2Proof.Machine.execGrant memReady s
  | .writeBackIssue memReady => Sys2Proof.Machine.execWriteBackIssue memReady s
  | .memoryAnswer tag outcome data => Sys2Proof.Machine.execMemoryAnswer tag outcome data s
  | .holdTimerExpiry requester tag => Sys2Proof.Machine.execHoldTimerExpiry requester tag s
  | .responseTimerExpiry tag => Sys2Proof.Machine.execResponseTimerExpiry tag s
  | .intervalExpiry => Sys2Proof.Machine.execIntervalExpiry s
  | .endOfRecovery => Sys2Proof.Machine.execEndOfRecovery s
  | .drainTimerExpiry => Sys2Proof.Machine.execDrainTimerExpiry s
  | .hardReset => Sys2Proof.Machine.execHardReset s
  | .resetnRelease => Sys2Proof.Machine.execResetnRelease s
  | .frameStart => Sys2Proof.Machine.execFrameStart s
  | .frameDiscard => Sys2Proof.Machine.execFrameDiscard s
  | .replyLost sent => Sys2Proof.Machine.execReplyLost sent s
  | .unknownCommand code => Sys2Proof.Machine.execUnknownCommand code s
  | .status => Sys2Proof.Machine.execStatus s
  | .queueRead position => Sys2Proof.Machine.execQueueRead position s
  | .windowWrite index record => Sys2Proof.Machine.execWindowWrite index record s
  | .windowRead index => Sys2Proof.Machine.execWindowRead index s
  | .cursorSet index row column => Sys2Proof.Machine.execCursorSet index row column s
  | .rotate index mode value => Sys2Proof.Machine.execRotate index mode value s
  | .classWrite number level mode budget carry => Sys2Proof.Machine.execClassWrite number level mode budget carry s
  | .classRead number => Sys2Proof.Machine.execClassRead number s
  | .settingsWrite record => Sys2Proof.Machine.execSettingsWrite record s
  | .settingsRead => Sys2Proof.Machine.execSettingsRead s
  | .monitorRead address => Sys2Proof.Machine.execMonitorRead address s
  | .monitorWrite address data => Sys2Proof.Machine.execMonitorWrite address data s
  | .monitorResult => Sys2Proof.Machine.execMonitorResult s
  | .eventSetup source level => Sys2Proof.Machine.execEventSetup source level s
  | .eventTake => Sys2Proof.Machine.execEventTake s
  | .eventRestore => Sys2Proof.Machine.execEventRestore s
  | .eventFloor value => Sys2Proof.Machine.execEventFloor value s
  | .eventClear mask => Sys2Proof.Machine.execEventClear mask s
  | .eventPeek => Sys2Proof.Machine.execEventPeek s
  | .flush mask => Sys2Proof.Machine.execFlush mask s
  | .drain mask => Sys2Proof.Machine.execDrain mask s
  | .resume => Sys2Proof.Machine.execResume s
  | .faultClear => Sys2Proof.Machine.execFaultClear s
  | .defaults => Sys2Proof.Machine.execDefaults s
  | .frameEnd => Sys2Proof.Machine.execFrameEnd s
  | .endOfReply => Sys2Proof.Machine.execEndOfReply s

end Sys2Proof.Machine
end

