-- ==== Sys2Proof/Machine/Step.lean ====
section
/-! DEFINITION. One step: the command at the front of the queue; on an empty queue the time base. -/

namespace Sys2Proof.Machine

open Sys2Proof

/-- Take the command at the front of the queue and run it with the queue's rest. On an empty queue the time
base moves (log 2): an expiry that is due is taken, and otherwise 1 µs passes. -/
def step (s : State) : Host.Outcome State Fault Refusal :=
  match s.pending with
  | i :: rest => exec i { s with pending := rest }
  | [] =>
    match s.ownExpiry with
    | some i => exec i s.countFree
    | none => .next (s.advance 1)

/-- The command a word spells goes to the front of the queue. No word spells one (`decodeTableWord`). -/
def State.withFetchWord (s : State) (nbits w : Nat) : State :=
  match decodeTableWord nbits w with
  | some i => { s with pending := i :: s.pending }
  | none => s

end Sys2Proof.Machine
end

