-- ==== Sys2Proof/Machine/Serial.lean ====
section
/-! DEFINITION. The serial link of the service port, bit by bit and byte by byte (R163, Table 10-2). The rows
of the table are the events that the bytes of a frame lead to; no row is a clock edge (log 11). -/

namespace Sys2Proof.Machine

open Sys2Proof

/-- R163: "Bytes are sent most significant bit first". -/
def msbFirst (b : Byte) : List Bool :=
  [b.getLsbD 7, b.getLsbD 6, b.getLsbD 5, b.getLsbD 4, b.getLsbD 3, b.getLsbD 2, b.getLsbD 1,
   b.getLsbD 0]

/-- The byte whose bits arrived in this order. -/
def byteOfBits (bits : List Bool) : Byte :=
  byteOf (bits.foldl (fun n b => 2 * n + b.toNat) 0)

/-- The bits of the byte that is arriving. -/
def State.setBits (bits : List Bool) (s : State) : State :=
  { s with service := { s.service with bits := bits } }

/-- The code and argument bytes stored so far. -/
def State.store (bytes : List Byte) (s : State) : State :=
  { s with service := { s.service with stored := bytes } }

/-- One reply byte has been shifted out whole; `rest` is left. -/
def State.shiftOut (b : Byte) (rest : List Byte) (s : State) : State :=
  { s with
    service := { s.service with reply := rest, shifted := s.service.shifted ++ [b] } }

/-- Table 10-2, column "At each byte arrival". In COMMAND the byte is stored, and at the last one the command
is taken. In REPLY the byte on SDO has gone out and the next one follows; after the last one the reply
has ended. In TRAIL the byte is ignored. -/
def State.byteArrives (b : Byte) (s : State) : Result :=
  match s.service.frame with
  | .idle => .next s
  | .command =>
    match decodeFrame (s.service.stored ++ [b]) with
    | some i => exec i (s.store [])
    | none => .next (s.store (s.service.stored ++ [b]))
  | .reply =>
    match s.service.reply with
    | out :: next :: rest => .next (s.shiftOut out (next :: rest))
    | _ => exec .endOfReply s
  | .trail => .next s

/-- A rising edge of SCK, with level `sdi` on SDI: "A byte arrives when its eighth bit has been sampled".
While SSN is high, and in a frame that a reset abandoned (IDLE), SCK and SDI are ignored. -/
def State.clockBit (sdi : Bool) (s : State) : Result :=
  if s.service.ssnLow = false ∨ s.service.frame = .idle then .next s
  else if s.service.bits.length < 7 then .next (s.setBits (s.service.bits ++ [sdi]))
  else (s.setBits []).byteArrives (byteOfBits (s.service.bits ++ [sdi]))

/-- Rising edges of SCK one after another. -/
def State.clockBits : List Bool → State → Result
  | [], s => .next s
  | sdi :: rest, s =>
    match s.clockBit sdi with
    | .next t => t.clockBits rest
    | .fault f => .fault f
    | .refused r => .refused r

end Sys2Proof.Machine
end

