-- ==== Sys2Proof/Safety.lean ====
section
/-! DEFINITION. What it means for a state to be one the part can be in: the laws of the device that the
spec names, and the table ranges, block by block. The statements say that every step keeps them. -/

namespace Sys2Proof.Machine

open Sys2Proof

/-! ## Windows and cursors (R1 to R10, R103, R112, R122) -/

/-- What WINDOW-WRITE accepts, as the record then stands (R2, R3, R6 to R10); ROTATE keeps it. -/
structure WindowRecord.Legal (w : WindowRecord) : Prop where
  zeroed : w.valid = false → w = WindowRecord.zeroed
  range : w.valid = true →
    w.base.toNat % 16 = 0 ∧ w.size.toNat % 16 = 0 ∧ 16 ≤ w.size.toNat ∧
      w.base.toNat + w.size.toNat ≤ addressSpace ∧ w.target.toNat % w.kind.targetAlign = 0
  pass : w.valid = true → w.kind = .pass → w.target.toNat + w.size.toNat ≤ addressSpace
  ring : w.valid = true → w.kind = .ring →
    8 ≤ w.ringK ∧ w.ringK ≤ 16 ∧ 2 ≤ w.ringN ∧ w.ringN ≤ 256 ∧
      w.size.toNat = w.ringN * 2 ^ w.ringK ∧ w.base.toNat % 2 ^ w.ringK = 0 ∧
      w.target.toNat % 2 ^ w.ringK = 0 ∧ w.ringH + w.ringT + 2 ≤ w.ringN ∧
      w.ringH + w.ringT + w.ringS < w.ringN ∧ w.target.toNat + w.size.toNat ≤ addressSpace
  aperture : w.valid = true → w.kind = .aperture →
    w.size.toNat = 16 ∧ 1 ≤ w.columns ∧ w.columns ≤ 4096 ∧ 1 ≤ w.rows ∧ w.rows ≤ 65536 ∧
      w.pitch.toNat % 4 = 0 ∧ (w.rows = 1 ∨ 4 * w.columns ≤ w.pitch.toNat) ∧
      w.target.toNat + (w.rows - 1) * w.pitch.toNat + 4 * w.columns ≤ addressSpace
  bitop : w.valid = true → w.kind = .bitop →
    w.size.toNat % 512 = 0 ∧ w.size.toNat ≤ 33554432 ∧
      w.target.toNat + 4 * (w.size.toNat / 512) ≤ addressSpace
  notRing : w.kind ≠ .ring →
    w.ringK = 0 ∧ w.ringN = 0 ∧ w.ringH = 0 ∧ w.ringT = 0 ∧ w.ringS = 0
  notAperture : w.kind ≠ .aperture →
    w.columns = 0 ∧ w.rows = 0 ∧ w.pitch = 0 ∧ w.scan = .rowMajor ∧ w.endPolicy = .wrap

/-- R103: the position lies inside the region; R112, R113: only a STOP cursor on its last cell is
EXHAUSTED. -/
structure Cursor.Inside (c : Cursor) (w : WindowRecord) : Prop where
  row : c.row < w.rows
  column : c.column < w.columns
  exhausted : c.exhausted = true → w.endPolicy = .stop ∧ atLastCell w c = true

/-- The window table and the cursors. -/
structure State.TablesLegal (s : State) : Prop where
  window : ∀ w : Fin 16, s.windows[w].Legal
  cursorExists : ∀ w : Fin 16,
    s.cursors[w].isSome = true ↔ s.windows[w].valid = true ∧ s.windows[w].kind = .aperture
  cursorInside : ∀ (w : Fin 16) (c : Cursor), s.cursors[w] = some c → c.Inside s.windows[w]

/-! ## Settings (Table 10-4) -/

/-- Every setting is in its range. -/
structure Settings.Legal (r : Settings) : Prop where
  interval : 1 ≤ r.interval ∧ r.interval ≤ 4096
  holdLimit : r.holdLimit ≤ 65535
  responseLimit : 1 ≤ r.responseLimit ∧ r.responseLimit ≤ 1023
  drainLimit : 1 ≤ r.drainLimit ∧ r.drainLimit ≤ 255
  threshold : 1 ≤ r.threshold ∧ r.threshold ≤ 24

/-! ## Queue, tags and monitor record (R22, R24, R25, R28, R40, R177) -/

/-- An entry is the monitor requester's exactly when its origin is MONITOR, and then its tag is 0
(R40); its length is 1 to 8 (Table 2-5). -/
structure Entry.Legal (e : Entry) : Prop where
  origin : e.requester = .monitor ↔ e.origin = .monitor
  tag : e.requester = .monitor → e.tag = 0
  length : 1 ≤ e.length ∧ e.length ≤ 8

/-- The admission queue with the occupancy flags and the monitor result record. -/
structure State.QueueLegal (s : State) : Prop where
  depth : s.queue.entries.length ≤ queueDepth
  names : (s.queue.entries.map Entry.id).Nodup
  entry : ∀ e ∈ s.queue.entries, e.Legal
  tagBusy : ∀ (r : Fin 8) (t : Fin 4),
    s.tagIsBusy r t = true ↔ ∃ e ∈ s.queue.entries, e.requester = .bus r ∧ e.tag = t
  monitor : s.service.monitor.state = .busy ↔ ∃ e ∈ s.queue.entries, e.requester = .monitor
  offered : ∀ r ∈ s.upstream.offered, r.wf = true

/-- Every entry's words are aligned and lie in the 4 GiB physical space: what the span checks (R14, R15)
and the checks of a window record (R7 to R10) bring about. -/
def State.EntriesPlaced (s : State) : Prop :=
  ∀ e ∈ s.queue.entries,
    e.physical.toNat % 4 = 0 ∧ e.physical.toNat + 4 * e.length ≤ addressSpace

/-! ## Class table (R57, Table 3-1) -/

/-- The ranges of a class record: credit from −7 to budget plus carry limit. -/
structure ClassRecord.Legal (c : ClassRecord) : Prop where
  low : -7 ≤ c.credit
  high : c.credit ≤ (c.budget.toNat : Int) + (c.carry.toNat : Int)
  usedNow : c.usedNow ≤ 65535
  usedLast : c.usedLast ≤ 65535

/-- All eight classes. -/
def State.ClassesLegal (s : State) : Prop := ∀ k : Fin 8, s.classTable.classes[k].Legal

/-! ## Memory port and bit-operation unit (R66, R67, R73, R79, R89) -/

/-- What tag `n` records of a granted entry `e` (R67, R73, Table 2-6). -/
def State.serves (s : State) (n : Fin 8) (e : Entry) : Prop :=
  match e.state with
  | .waiting => False
  | .issued => e.kind.isBit = false ∧ ∃ i, s.mem.tags[n] = .busy e.id e.kind.grantPhase (some i)
  | .fetching => e.kind.isBit = true ∧ ∃ i, s.mem.tags[n] = .busy e.id .fetch (some i)
  | .writingBack => e.kind.isBit = true ∧ ∃ i, s.mem.tags[n] = .busy e.id .writeBack i

/-- What a held slot records of its owner `e` (R89). -/
structure Slot.Serves (x : Slot) (e : Entry) : Prop where
  owner : e.id = x.owner
  dtag : e.dtag = some x.dtag
  word : e.physical = x.word
  opBit : e.kind.opBit = some (x.op, x.bit)
  phase : (e.state = .fetching ∧ x.fetched = none) ∨ (e.state = .writingBack ∧ x.fetched.isSome = true)

/-- Entries, downstream tags, waiting write-backs, atomic slots and the port state fit together. -/
structure State.PortLegal (s : State) : Prop where
  waiting : ∀ e ∈ s.queue.entries, e.state = .waiting → e.dtag = none
  granted : ∀ e ∈ s.queue.entries, e.state ≠ .waiting → ∃ n, e.dtag = some n ∧ s.serves n e
  owner : ∀ (n : Fin 8) (o : EntryId) (p : Phase) (i : Option Issued),
    s.mem.tags[n] = .busy o p i → ∃ e ∈ s.queue.entries, e.id = o ∧ e.dtag = some n
  writeBackOnce : s.mem.writeBacks.Nodup
  writeBackWaits : ∀ n : Fin 8,
    n ∈ s.mem.writeBacks ↔ ∃ o, s.mem.tags[n] = .busy o .writeBack none
  twoSlots : s.slots.length ≤ 2
  slotOwners : (s.slots.map Slot.owner).Nodup
  slotServes : ∀ x ∈ s.slots, ∃ e ∈ s.queue.entries, x.Serves e
  slotHeld : ∀ e ∈ s.queue.entries, e.state = .fetching ∨ e.state = .writingBack →
    ∃ x ∈ s.slots, x.owner = e.id
  stalled : (∀ n : Fin 8, s.mem.tags[n] = .quarantined) → s.mem.port ≠ .running
  noBusy : s.mem.port ≠ .running →
    ∀ (n : Fin 8) (o : EntryId) (p : Phase) (i : Option Issued), s.mem.tags[n] ≠ .busy o p i

/-- R32, "entries of the same requester are granted in admission order"; R33, "two entries whose physical
word ranges overlap are never both granted and in the queue at the same time". `a` stands before `b`
in the queue. -/
def grantedInOrder (a b : Entry) : Prop :=
  (a.requester = b.requester → b.state ≠ .waiting → a.state ≠ .waiting) ∧
    (overlap a b = true → b.state = .waiting)

/-- Every two entries, the older first. -/
def State.OrderLegal (s : State) : Prop := s.queue.entries.Pairwise grantedInOrder

/-! ## Events (R132 to R140) -/

/-- A source record (R132 to R134). -/
structure SourceRecord.Legal (r : SourceRecord) (src : Source) : Prop where
  level : if src = .fault then r.level = 8 else r.level ≤ 7
  count : r.count ≤ 15
  idle : r.pending = false → r.detail = Detail.empty ∧ r.count = 0
  edge : src.isLevel = false → r.pending = true → 1 ≤ r.count
  condition : src.isLevel = true → r.detail = Detail.empty ∧ r.count = 0

/-- The event controller (R132, R138, R140). -/
structure State.EventsLegal (s : State) : Prop where
  source : ∀ src : Source, (s.source src).Legal src
  floor : s.events.floor ≤ 8
  depth : s.events.stack.length ≤ 4
  saved : ∀ f ∈ s.events.stack, f ≤ 7

/-- R135, R139: the level sources are pending exactly while their conditions hold, and IRQN is asserted
exactly while some pending source is above the floor. -/
structure State.EventsJudged (s : State) : Prop where
  pending : ∀ src : Source, (s.source src).pending = s.judgedPending src
  irqn : s.events.irqn = s.irqnWanted

/-! ## Drain control (R150, R151, R153, R155) -/

/-- The mask is empty exactly in NONE; a masked requester's entry is in the queue in DRAINING and STUCK,
and none is in DRAINED. -/
structure State.DrainLegal (s : State) : Prop where
  mask : s.drain.state = .none ↔ s.drain.mask = 0
  waits : s.drain.state = .draining ∨ s.drain.state = .stuck → s.maskedEntry s.drain.mask = true
  done : s.drain.state = .drained → s.maskedEntry s.drain.mask = false

/-! ## Timers (R35, R55, R76, R82, R154; log 2) -/

/-- No timer that leads to an event is past its limit. -/
structure State.TimersLegal (s : State) : Prop where
  interval : s.classTable.timer ≤ s.classTable.length
  hold : ∀ e ∈ s.queue.entries, e.state = .waiting → e.holdLimit ≠ 0 → e.holdTimer ≤ e.holdLimit
  response : ∀ (n : Fin 8) (o : EntryId) (p : Phase) (i : Issued),
    s.mem.tags[n] = .busy o p (some i) → i.timer ≤ i.limit
  recovery : s.mem.port = .recovering → s.mem.recoveryTimer ≤ recoveryLimit
  drain : s.drain.state = .draining → s.drain.timer ≤ 1000 * s.drain.limit

/-! ## RESETN (R3, R45, R48, R83, R89, R103, R149, R150, R168, R177) -/

/-- While RESETN is asserted every block is in its reset state. -/
def State.ResetHeld (s : State) : Prop := s.resetAsserted = true → s.asserted = s

/-- R81 to R83: MRSTN is asserted while the port recovers and while RESETN is asserted, and then only. -/
def State.MrstnLegal (s : State) : Prop :=
  s.mem.mrstn = true ↔ s.mem.port = .recovering ∨ s.resetAsserted = true

/-! ## Names used by the statements -/

/-- The reply of a command taken in a frame: the frame state becomes REPLY, the reply is formed (R163,
R167). -/
def State.replying (s : State) (bytes : List Byte) : State :=
  { s with service := { s.service with frame := .reply, reply := bytes } }

/-- R1: a record contains an address. -/
def WindowRecord.Covers (w : WindowRecord) (a : Nat) : Prop :=
  w.valid = true ∧ w.base.toNat ≤ a ∧ a < w.base.toNat + w.size.toNat

/-- R16: the permit for a direction. -/
def WindowRecord.permit (w : WindowRecord) : Direction → Byte
  | .read => w.readPermit
  | .write => w.writePermit

/-- The request reaches the checks of its window's kind: `w` is found, the span check and the permit check
pass (Table 1-3, steps 1 to 3). -/
structure State.Reaches (s : State) (r : Request) (w : Fin 16) : Prop where
  found : s.lookup r.address.toNat = some w
  span : lastWord r < s.windows[w].base.toNat + s.windows[w].size.toNat
  permit : (s.windows[w].permit r.direction).getLsbD r.requester.val = true

/-- REQUEST_TAKE takes request `r`, leaving `rest` on the channel (R25). -/
structure State.Takes (s : State) (offer : Option Request) (r : Request) (rest : List Request) :
    Prop where
  wf : offer.all Request.wf = true
  ready : s.resetAsserted = false ∧ s.queue.entries.length < 24
  front : s.upstream.offered ++ offer.toList = r :: rest

/-- The request taken goes on to the decoder: its tag is FREE and drain control does not refuse it (R26,
R27). -/
structure State.Decodes (s : State) (offer : Option Request) (r : Request) (rest : List Request) :
    Prop where
  takes : s.Takes offer r rest
  tag : s.tagIsBusy r.requester r.tag = false
  drain : s.drain.state = .none ∨ s.drain.mask.getLsbD r.requester.val = false

/-- The channel after a take. -/
def State.channel (s : State) (rest : List Request) : State :=
  { s with upstream := { s.upstream with offered := rest } }

/-- The window and the class that a detail of request `r` names (R18). -/
def State.route (s : State) (r : Request) : WindowRef × Fin 8 :=
  match s.lookup r.address.toNat with
  | some w => (.window w, s.windows[w].cls)
  | none => (.default, s.settings.defaultClass)

/-- The time left to an expiry command's own timer; none for a timer that is not running and for every
other command. -/
def State.expiryLeft (s : State) : Instr → Option Nat
  | .holdTimerExpiry requester tag =>
    (s.findEntry { requester := requester, tag := tag }).bind Entry.holdLeft
  | .responseTimerExpiry n => s.mem.tags[n].responseLeft
  | .intervalExpiry => s.intervalLeft
  | .endOfRecovery => s.recoveryLeft
  | .drainTimerExpiry => s.drainLeft
  | _ => none

/-- The five expiries of the time base. -/
def isExpiry : Instr → Bool
  | .holdTimerExpiry _ _ => true
  | .responseTimerExpiry _ => true
  | .intervalExpiry => true
  | .endOfRecovery => true
  | .drainTimerExpiry => true
  | _ => false

/-- R6 to R10: a WINDOW-WRITE with valid = yes is accepted, the kind's number being the byte of Table
10-6. -/
structure Acceptable (b : WindowBytes) : Prop where
  kind : b.kind.toNat ≤ 3
  base : b.base.toNat % 16 = 0
  size : b.size.toNat % 16 = 0 ∧ 16 ≤ b.size.toNat
  top : b.base.toNat + b.size.toNat ≤ 2 ^ 32
  target : if b.kind = 0 ∨ b.kind = 1 then b.target.toNat % 16 = 0 else b.target.toNat % 4 = 0
  cls : b.cls.toNat ≤ 7
  pass : b.kind = 0 → b.target.toNat + b.size.toNat ≤ 2 ^ 32
  ring : b.kind = 1 →
    8 ≤ b.ringK.toNat ∧ b.ringK.toNat ≤ 16 ∧ 2 ≤ b.ringN.toNat ∧ b.ringN.toNat ≤ 256 ∧
      b.size.toNat = b.ringN.toNat * 2 ^ b.ringK.toNat ∧
      b.base.toNat % 2 ^ b.ringK.toNat = 0 ∧ b.target.toNat % 2 ^ b.ringK.toNat = 0 ∧
      b.ringH.toNat + b.ringT.toNat ≤ b.ringN.toNat - 2 ∧
      b.ringS.toNat < b.ringN.toNat - b.ringH.toNat - b.ringT.toNat ∧
      b.target.toNat + b.size.toNat ≤ 2 ^ 32
  aperture : b.kind = 2 →
    b.size.toNat = 16 ∧ 1 ≤ b.columns.toNat ∧ b.columns.toNat ≤ 4096 ∧ 1 ≤ b.rows.toNat ∧
      b.rows.toNat ≤ 65536 ∧ b.pitch.toNat % 4 = 0 ∧
      (1 < b.rows.toNat → 4 * b.columns.toNat ≤ b.pitch.toNat) ∧ b.scan.toNat ≤ 1 ∧
      b.endPolicy.toNat ≤ 1 ∧
      b.target.toNat + (b.rows.toNat - 1) * b.pitch.toNat + 4 * b.columns.toNat ≤ 2 ^ 32
  bitop : b.kind = 3 →
    b.size.toNat % 512 = 0 ∧ b.size.toNat ≤ 0x02000000 ∧ b.target.toNat % 4 = 0 ∧
      b.target.toNat + 4 * (b.size.toNat / 512) ≤ 2 ^ 32

/-- R2, R11: record `w` holds the common fields of `b` as written, the fields of `b`'s own kind, and zero
in those of other kinds. -/
structure WindowRecord.Stores (w : WindowRecord) (b : WindowBytes) : Prop where
  valid : w.valid = true
  kind : w.kind.byte = b.kind
  base : w.base = b.base
  size : w.size = b.size
  target : w.target = b.target
  cls : w.cls.val = b.cls.toNat
  permits : w.readPermit = b.readPermit ∧ w.writePermit = b.writePermit
  watch : w.watch = b.flags.getLsbD 1
  ring : if b.kind = 1 then
      w.ringK = b.ringK.toNat ∧ w.ringN = b.ringN.toNat ∧ w.ringH = b.ringH.toNat ∧
        w.ringT = b.ringT.toNat ∧ w.ringS = b.ringS.toNat
    else w.ringK = 0 ∧ w.ringN = 0 ∧ w.ringH = 0 ∧ w.ringT = 0 ∧ w.ringS = 0
  aperture : if b.kind = 2 then
      w.columns = b.columns.toNat ∧ w.rows = b.rows.toNat ∧ w.pitch = b.pitch ∧
        w.scan.byte = b.scan ∧ w.endPolicy.byte = b.endPolicy
    else w.columns = 0 ∧ w.rows = 0 ∧ w.pitch = 0 ∧ w.scan.byte = 0 ∧ w.endPolicy.byte = 0

end Sys2Proof.Machine
end

