-- ==== Sys2Proof/Certificates/Slice0/Obligations.lean ====
section
/-! DEFINITION. The statements for the provers. In each of them `exec` is the command's effect and
`.next t` says that it completes with next state `t`. Where `t` is written as an update of `s`, all
that the update does not name is unchanged: that is the command's frame. `judge` is the judgement of
the level sources and of IRQN (`Obligations.EventsKept` says what it leaves). -/

open Sys2Proof Sys2Proof.Machine

/-! ## The step and the time base -/

/-- A step with command `c` at the front of the queue is `exec c` with the queue's rest. -/
def Obligations.StepRunsFrontCommand : Prop :=
  ∀ (c : Instr) (rest : List Instr) (s : State),
    step { s with pending := c :: rest } = exec c { s with pending := rest }

/-- The model's choice (log 2 and 3): on an empty queue the step takes one of the expiries that are due,
whichever the free value picks, and lets 1 µs pass when none is. An expiry is due when its timer has
reached its limit (R37, R55, R76, R82, R154). When `k` µs pass, every running timer counts `k`, and
under RESETN none runs. -/
def Obligations.EmptyQueueStepIsTheTimeBase : Prop :=
  ∀ s : State,
    (s.pending = [] → s.due = [] → step s = .next (s.advance 1)) ∧
    (s.pending = [] → s.due ≠ [] → ∃ i ∈ s.due, step s = exec i s.countFree) ∧
    (∀ i, i ∈ s.due ↔
      (∃ e ∈ s.queue.entries, e.state = .waiting ∧ e.holdLimit ≠ 0 ∧ e.holdLimit ≤ e.holdTimer ∧
        i = .holdTimerExpiry e.requester e.tag) ∨
      (∃ (n : Fin 8) (o : EntryId) (p : Phase) (x : Issued),
        s.mem.tags[n] = .busy o p (some x) ∧ x.limit ≤ x.timer ∧ i = .responseTimerExpiry n) ∨
      (s.resetAsserted = false ∧ s.classTable.length ≤ s.classTable.timer ∧ i = .intervalExpiry) ∨
      (s.mem.port = .recovering ∧ 10 ≤ s.mem.recoveryTimer ∧ i = .endOfRecovery) ∨
      (s.drain.state = .draining ∧ 1000 * s.drain.limit ≤ s.drain.timer ∧
        i = .drainTimerExpiry)) ∧
    (s.resetAsserted = true → ∀ k, s.advance k = s) ∧
    (s.resetAsserted = false → ∀ k,
      (∀ (n : Fin 8) (o : EntryId) (p : Phase) (x : Issued),
        s.mem.tags[n] = .busy o p (some x) →
          (s.advance k).mem.tags[n] = .busy o p (some { x with timer := x.timer + k })) ∧
      (∀ n : Fin 8, (∀ (o : EntryId) (p : Phase) (x : Issued),
        s.mem.tags[n] ≠ .busy o p (some x)) → (s.advance k).mem.tags[n] = s.mem.tags[n]) ∧
      s.advance k =
        { s with
          queue :=
            { s.queue with
              entries := s.queue.entries.map fun e => { e with holdTimer := e.holdTimer + k } },
          classTable := { s.classTable with timer := s.classTable.timer + k },
          mem :=
            { s.mem with
              tags := (s.advance k).mem.tags,
              recoveryTimer :=
                if s.mem.port = .recovering then s.mem.recoveryTimer + k
                else s.mem.recoveryTimer },
          drain :=
            { s.drain with
              timer := if s.drain.state = .draining then s.drain.timer + k else s.drain.timer } })

/-- The model's choice (log 2): an expiry command whose timer has `k` µs left, with no other timer's event
before that, happens as it does `k` µs later; with an earlier event, or with no such timer running,
it changes nothing. -/
def Obligations.ExpiryCommandsLetTimeRunOn : Prop :=
  ∀ (i : Instr) (s : State), isExpiry i = true →
    (s.expiryLeft i = none → exec i s = .next s) ∧
    ∀ k, s.expiryLeft i = some k →
      ((∀ t ∈ s.timesLeft, k ≤ t) → exec i s = exec i (s.advance k)) ∧
      ((∃ t ∈ s.timesLeft, t < k) → exec i s = .next s)

/-! ## RESETN -/

/-- R3, R45, R48, R83, R89, R103, R149, R150, R168, R177, Table 10-4: what HARD_RESET leaves. RESETN_RELEASE then
begins the first interval of 1000 µs and releases MRSTN, which gives `State.reset`. The model's own
choices in it: that `State.reset` is the moment of the release (log 1); that what is outside the part
stays, which is the offered requests (log 5), the records of outputs sent (log 6), the queue of
commands, the free-value counter, SSN and memory's ready (log 14); the values in `State.reset` that
the spec does not give, which are the drain's limit and timer, the recovery timer and the formed reply
(log 7); and that without RESETN asserted there is no release (log 9). -/
def Obligations.HardResetAndRelease : Prop :=
  ∀ s : State,
    (∃ t, exec .hardReset s = .next t ∧
      t.resetAsserted = true ∧
      (∀ w : Fin 16, t.windows[w] = WindowRecord.zeroed ∧ t.cursors[w] = none) ∧
      t.settings =
        { interval := 1000, holdLimit := 0, responseLimit := 100, drainLimit := 10,
          threshold := 20, monitorClass := 0, defaultClass := 0, deny := false } ∧
      t.queue = { entries := [], stamp := 0 } ∧
      (∀ (r : Fin 8) (g : Fin 4), t.tagIsBusy r g = false) ∧
      (∀ k : Fin 8, t.classTable.classes[k] =
        { level := 4, mode := .free, budget := 0, carry := 0, credit := 0, usedNow := 0,
          usedLast := 0, overrun := false }) ∧
      t.classTable.timer = 0 ∧
      t.mem.port = .running ∧ (∀ n : Fin 8, t.mem.tags[n] = .free) ∧ t.mem.writeBacks = [] ∧
      t.mem.mrstn = true ∧ t.slots = [] ∧
      (∀ src : Source, t.source src =
        { level := if src = .fault then 8 else 0, pending := false, detail := Detail.empty,
          count := 0 }) ∧
      t.events.floor = 0 ∧ t.events.stack = [] ∧ t.events.irqn = false ∧
      t.drain.state = .none ∧ t.drain.mask = 0 ∧
      t.service.frame = .idle ∧ t.sdo = none ∧ t.service.bits = [] ∧ t.service.stored = [] ∧
      t.service.monitor = { state := .idle, outcome := none, data := 0 } ∧
      t.pending = s.pending ∧ t.freeCount = s.freeCount ∧
      t.upstream.offered = s.upstream.offered ∧ t.upstream.responses = s.upstream.responses ∧
      t.mem.ready = s.mem.ready ∧ t.mem.requests = s.mem.requests ∧
      t.service.ssnLow = s.service.ssnLow ∧ t.service.shifted = s.service.shifted ∧
      exec .resetnRelease t =
        .next
          { State.reset with
            pending := s.pending, freeCount := s.freeCount,
            upstream :=
              { State.reset.upstream with
                offered := s.upstream.offered, responses := s.upstream.responses },
            mem :=
              { State.reset.mem with ready := s.mem.ready, requests := s.mem.requests },
            service :=
              { State.reset.service with
                ssnLow := s.service.ssnLow, shifted := s.service.shifted } }) ∧
    (s.resetAsserted = true → exec .resetnRelease s =
      .next
        { s with
          resetAsserted := false, mem := { s.mem with mrstn := false },
          classTable :=
            { s.classTable with length := s.settings.interval, timer := 0 } }) ∧
    (s.resetAsserted = false → exec .resetnRelease s = .next s)

/-! ## The upstream port -/

/-- R25: ready is held exactly while RESETN is released and the queue holds fewer than twenty-four
entries; a request offered otherwise waits on the channel behind the others, and nothing else
happens. With nothing on the channel nothing is taken. That the channel is held in the state, first
in, first out, is the model's choice (log 5). -/
def Obligations.RequestsWaitWhileNotReady : Prop :=
  ∀ (s : State) (o : Option Request), o.all Request.wf = true →
    (s.upReady = true ↔ s.resetAsserted = false ∧ s.queue.entries.length < 24) ∧
    (s.upReady = false → exec (.requestTake o) s = .next
      { s with
        upstream := { s.upstream with offered := s.upstream.offered ++ o.toList } }) ∧
    (s.upstream.offered ++ o.toList = [] → exec (.requestTake o) s = .next s)

/-- R26, R27: a taken request whose pair is BUSY is discarded and REFUSED receives TAG_IN_USE, whatever the
drain; one whose pair is FREE and whose requester is in the drain mask is answered DRAINING. -/
def Obligations.BusyTagAndDrainAreCheckedFirst : Prop :=
  ∀ (s : State) (o : Option Request) (r : Request) (rest : List Request), s.Takes o r rest →
    (s.tagIsBusy r.requester r.tag = true → exec (.requestTake o) s = .next
      ((s.channel rest).report .refused
        { requester := some (.bus r.requester), address := r.address, window := none, cls := none,
          code := some .tagInUse }).judge) ∧
    (s.tagIsBusy r.requester r.tag = false → s.drain.state ≠ .none →
      s.drain.mask.getLsbD r.requester.val = true → exec (.requestTake o) s = .next
        ({ s with
          upstream :=
            { s.upstream with
              offered := rest,
              responses := s.upstream.responses ++
                [{ requester := r.requester, tag := r.tag, outcome := .draining, data := [] }] } } :
          State).judge)

/-- R13 to R16, R4, Table 1-3, and PASS translation (R19). The lookup finds the lowest-numbered valid
record that contains the first word. In a window the last word must lie below its end, and then the
permit for the direction must hold the requester. On the default route no word may lie in a valid
window or past the top of the address space, and then deny must be no. -/
def Obligations.DecodeChecksInOrder : Prop :=
  ∀ s : State,
    (∀ (a : Nat) (w : Fin 16), s.lookup a = some w ↔
      s.windows[w].Covers a ∧ ∀ v : Fin 16, v < w → ¬ s.windows[v].Covers a) ∧
    (∀ a : Nat, s.lookup a = none ↔ ∀ w : Fin 16, ¬ s.windows[w].Covers a) ∧
    (∀ (r : Request) (w : Fin 16), s.lookup r.address.toNat = some w →
      (s.windows[w].base.toNat + s.windows[w].size.toNat ≤ lastWord r →
        s.decode r = .refuse .split) ∧
      (lastWord r < s.windows[w].base.toNat + s.windows[w].size.toNat →
        (s.windows[w].permit r.direction).getLsbD r.requester.val = false →
        s.decode r = .refuse .denied)) ∧
    (∀ (r : Request) (w : Fin 16), s.Reaches r w → s.windows[w].kind = .pass →
      s.decode r = .plain (s.windows[w].target + (r.address - s.windows[w].base))) ∧
    (∀ r : Request, s.lookup r.address.toNat = none →
      ((∃ i < r.length, ∃ w : Fin 16, s.windows[w].Covers (r.address.toNat + 4 * i)) ∨
        2 ^ 32 < r.address.toNat + 4 * r.length → s.decode r = .refuse .split) ∧
      ((∀ i < r.length, ∀ w : Fin 16, ¬ s.windows[w].Covers (r.address.toNat + 4 * i)) →
        r.address.toNat + 4 * r.length ≤ 2 ^ 32 →
        s.decode r = if s.settings.deny then .refuse .denied else .plain r.address))

/-- R17 step 3, R123, R124, R126: a RING request that crosses a block edge is refused with SPLIT; otherwise
its first word is at target + p × B + (o mod B), where p = b in the head and the tail, and
p = H + ((b − H + S) mod M) in the rotating zone. -/
def Obligations.RingRequestsAreTranslated : Prop :=
  ∀ (s : State) (r : Request) (w : Fin 16), s.Reaches r w → s.windows[w].kind = .ring →
    let x := s.windows[w]
    let o := r.address.toNat - x.base.toNat
    let b := o / 2 ^ x.ringK
    ((lastWord r - x.base.toNat) / 2 ^ x.ringK ≠ b → s.decode r = .refuse .split) ∧
    ((lastWord r - x.base.toNat) / 2 ^ x.ringK = b → ∃ p,
      s.decode r =
        .plain (BitVec.ofNat 32 (x.target.toNat + p * 2 ^ x.ringK + o % 2 ^ x.ringK)) ∧
      (b < x.ringH ∨ x.ringN - x.ringT ≤ b → p = b) ∧
      (x.ringH ≤ b → b < x.ringN - x.ringT →
        p = x.ringH + (b - x.ringH + x.ringS) % (x.ringN - x.ringH - x.ringT)))

/-- R125, for a record that WINDOW-WRITE accepts: the map takes the N logical blocks to the N physical
blocks one to one; head and tail blocks map to themselves and the rotating ones among themselves, in
a cyclic order turned by S; so the addresses lie from target to target + size − 1, and two offsets
reach one physical address only when they are the same; physical block p of the rotating zone is
reached from H + ((p − H − S) mod M); with S advanced by one, block H is reached from N − T − 1 and
block H + 1 from H. -/
def Obligations.RingMapIsOneToOne : Prop :=
  ∀ w : WindowRecord, w.Legal → w.valid = true → w.kind = .ring →
    (∀ b < w.ringN, ringBlock w b < w.ringN) ∧
    (∀ b < w.ringN, ∀ c < w.ringN, ringBlock w b = ringBlock w c → b = c) ∧
    (∀ b, b < w.ringH ∨ w.ringN - w.ringT ≤ b → ringBlock w b = b) ∧
    (∀ i < w.ringN - w.ringH - w.ringT, ∀ j < w.ringN - w.ringH - w.ringT,
      j = (i + w.ringS) % (w.ringN - w.ringH - w.ringT) →
        ringBlock w (w.ringH + i) = w.ringH + j) ∧
    (∀ p, w.ringH ≤ p → p < w.ringN - w.ringT →
      ringBlock w
        (w.ringH + (p - w.ringH + (w.ringN - w.ringH - w.ringT - w.ringS)) %
          (w.ringN - w.ringH - w.ringT)) = p) ∧
    (∀ o < w.size.toNat, w.target.toNat ≤ (ringAddress w o).toNat ∧
      (ringAddress w o).toNat < w.target.toNat + w.size.toNat) ∧
    (∀ o < w.size.toNat, ∀ q < w.size.toNat, ringAddress w o = ringAddress w q → o = q) ∧
    (w.ringS = 0 → ∀ v : WindowRecord, v = { w with ringS := 1 } →
      ringBlock v (w.ringN - w.ringT - 1) = w.ringH ∧ ringBlock v w.ringH = w.ringH + 1)

/-- R17, R106 to R109, R115 and Table 6-4: the decode of a request to an APERTURE window by its length and
offset, and the advance of a READY cursor inside its region (R111 to R113). -/
def Obligations.ApertureRequestsAreDecoded : Prop :=
  (∀ (s : State) (r : Request) (w : Fin 16), s.Reaches r w → s.windows[w].kind = .aperture →
    let x := s.windows[w]
    let o := r.address.toNat - x.base.toNat
    let c := s.cursorOf w
    let cell := BitVec.ofNat 32 (x.target.toNat + c.row * x.pitch.toNat + 4 * c.column)
    (1 < r.length → s.decode r = .refuse .unsupported) ∧
    (r.length = 1 → o = 12 → s.decode r = .refuse .unsupported) ∧
    (r.length = 1 → o = 8 → r.direction = .read → s.decode r = .position w) ∧
    (r.length = 1 → o = 8 → r.direction = .write → s.decode r = .rewind w) ∧
    (r.length = 1 → o = 0 ∨ o = 4 → c.exhausted = true → s.decode r = .refuse .apertureEnd) ∧
    (r.length = 1 → o = 0 → c.exhausted = false → s.decode r = .claim w cell true) ∧
    (r.length = 1 → o = 4 → c.exhausted = false →
      s.decode r = .claim w cell (decide (r.direction = .write)))) ∧
  (∀ (w : WindowRecord) (c : Cursor), c.Inside w → c.exhausted = false →
    (w.scan = .rowMajor → c.column < w.columns - 1 →
      advanceCursor w c = { row := c.row, column := c.column + 1, exhausted := false }) ∧
    (w.scan = .rowMajor → c.column = w.columns - 1 → c.row < w.rows - 1 →
      advanceCursor w c = { row := c.row + 1, column := 0, exhausted := false }) ∧
    (w.scan = .columnMajor → c.row < w.rows - 1 →
      advanceCursor w c = { row := c.row + 1, column := c.column, exhausted := false }) ∧
    (w.scan = .columnMajor → c.row = w.rows - 1 → c.column < w.columns - 1 →
      advanceCursor w c = { row := 0, column := c.column + 1, exhausted := false }) ∧
    (c.row = w.rows - 1 → c.column = w.columns - 1 → w.endPolicy = .wrap →
      advanceCursor w c = { row := 0, column := 0, exhausted := false }) ∧
    (c.row = w.rows - 1 → c.column = w.columns - 1 → w.endPolicy = .stop →
      advanceCursor w c = { row := c.row, column := c.column, exhausted := true }))

/-- R17 step 1, R85, Table 5-1: the decode of a request to a BITOP window, where op 0 is TEST, 1 SET, 2
CLEAR and 3 CHANGE; and every (word index, op, bit) of a window of size Z is reached by exactly one
offset. -/
def Obligations.BitopRequestsAreMapped : Prop :=
  (∀ (s : State) (r : Request) (w : Fin 16), s.Reaches r w → s.windows[w].kind = .bitop →
    let x := s.windows[w]
    let o := r.address.toNat - x.base.toNat
    (1 < r.length → s.decode r = .refuse .unsupported) ∧
    (r.length = 1 → ∃ (op : BitOp) (bit : Fin 32),
      s.decode r = .bit (BitVec.ofNat 32 (x.target.toNat + 4 * (o / 512))) op bit ∧
      op.byte.toNat = o % 512 / 4 / 32 ∧ bit.val = o % 512 / 4 % 32)) ∧
  (∀ (size j : Nat) (op : BitOp) (bit : Fin 32), size % 512 = 0 → j < size / 512 →
    ∃ o, (o < size ∧ o % 4 = 0 ∧ o / 512 = j ∧ aliasOp o = op ∧ aliasBit o = bit) ∧
      ∀ q, q < size ∧ q % 4 = 0 ∧ q / 512 = j ∧ aliasOp q = op ∧ aliasBit q = bit → q = o)

/-- R18: a request refused at decode is answered at once with its refusal and no data, and every refusal
but APERTURE_END reports one occurrence with the detail of the rule. -/
def Obligations.RefusedRequestsAreAnsweredAtOnce : Prop :=
  ∀ (s : State) (o : Option Request) (r : Request) (rest : List Request), s.Decodes o r rest →
    let detail (code : Code) : Detail :=
      { requester := some (.bus r.requester), address := r.address,
        window := some (s.route r).1, cls := some (s.route r).2, code := some code }
    let answered (outcome : UpOutcome) (t : State) : State :=
      { t with
        upstream :=
          { s.upstream with
            offered := rest,
            responses := s.upstream.responses ++
              [{ requester := r.requester, tag := r.tag, outcome := outcome, data := [] }] } }
    (s.decode r = .refuse .split → exec (.requestTake o) s =
      .next (answered .split (s.report .refused (detail .split))).judge) ∧
    (s.decode r = .refuse .unsupported → exec (.requestTake o) s =
      .next (answered .unsupported (s.report .refused (detail .unsupported))).judge) ∧
    (s.decode r = .refuse .denied → (s.route r).1 ≠ .default → exec (.requestTake o) s =
      .next (answered .denied (s.report .denied (detail .permit))).judge) ∧
    (s.decode r = .refuse .denied → (s.route r).1 = .default → exec (.requestTake o) s =
      .next (answered .denied (s.report .denied (detail .routeDeny))).judge) ∧
    (s.decode r = .refuse .apertureEnd → exec (.requestTake o) s =
      .next (answered .apertureEnd s).judge)

/-- R19, R20, R24, R28, R29, R86: a request that passes every check joins the young end of the queue with
the fields of the rules, takes the stamp, and makes its pair BUSY. -/
def Obligations.AdmittedRequestsJoinTheQueue : Prop :=
  ∀ (s : State) (o : Option Request) (r : Request) (rest : List Request), s.Decodes o r rest →
    let admitted (physical : Word) (kind : EntryKind) : State :=
      { s with
        queue :=
          { entries := s.queue.entries ++
              [{ requester := .bus r.requester, tag := r.tag, upAddress := r.address,
                 origin := match s.lookup r.address.toNat with
                   | some w => .window w
                   | none => .default,
                 kind := kind, physical := physical, length := r.length, cls := (s.route r).2,
                 stamp := s.queue.stamp, holdLimit := s.settings.holdLimit, holdTimer := 0,
                 state := .waiting, dtag := none }],
            stamp := s.queue.stamp + 1 },
        upstream :=
          { s.upstream with
            offered := rest,
            tagBusy := s.upstream.tagBusy.set r.requester
              (s.upstream.tagBusy[r.requester].set r.tag true) } }
    let plain : EntryKind :=
      if r.direction = .read then .plainRead else .plainWrite r.byteEnables r.data
    (∀ physical, s.decode r = .plain physical →
      exec (.requestTake o) s = .next (admitted physical plain).judge) ∧
    (∀ physical op bit, s.decode r = .bit physical op bit →
      exec (.requestTake o) s = .next
        (admitted physical
          (if r.direction = .read then .bitRead op bit else .bitWrite op bit)).judge) ∧
    (∀ w physical, s.decode r = .claim w physical false →
      exec (.requestTake o) s = .next (admitted physical plain).judge) ∧
    (∀ w physical, s.decode r = .claim w physical true →
      exec (.requestTake o) s = .next
        ({ admitted physical plain with
            cursors := s.cursors.set w
              (some (advanceCursor s.windows[w] (s.cursorOf w))) } : State).judge)

/-- R108, R109: a POSITION read is answered OK with the word of Table 6-3, a REWIND sets the cursor to (0,
0), READY, and is answered OK; neither makes an entry, and the pair stays FREE. -/
def Obligations.PositionAndRewindAreAnsweredAtDecode : Prop :=
  ∀ (s : State) (o : Option Request) (r : Request) (rest : List Request) (w : Fin 16),
    s.Decodes o r rest →
    let answered (data : List Word) : UpstreamPort :=
      { s.upstream with
        offered := rest,
        responses := s.upstream.responses ++
          [{ requester := r.requester, tag := r.tag, outcome := .ok, data := data }] }
    (s.decode r = .position w → exec (.requestTake o) s = .next
      ({ s with
        upstream := answered
          [BitVec.ofNat 32
            ((s.cursorOf w).row * 2 ^ 16 + (s.cursorOf w).column * 2 ^ 4 +
              (if (s.cursorOf w).exhausted then 1 else 0))] } : State).judge) ∧
    (s.decode r = .rewind w → exec (.requestTake o) s = .next
      ({ s with
        upstream := answered [],
        cursors := s.cursors.set w (some { row := 0, column := 0, exhausted := false }) } :
        State).judge)

/-! ## The queue and the arbiter -/

/-- R31: an entry is eligible when it is WAITING and the six conditions hold; two ranges overlap when they
have a word in common (R33; every entry in the queue has a length of at least 1 and an aligned address,
see `Obligations.QueueKept` and `Obligations.TablesKept`). A WAITING entry's hold reason is the first
condition it does not meet, and PORT when it meets every one (R34). -/
def Obligations.EligibilityIsTheSixConditions : Prop :=
  (∀ a b : Entry, 1 ≤ a.length → 1 ≤ b.length → a.physical.toNat % 4 = 0 →
    b.physical.toNat % 4 = 0 →
    (overlap a b = true ↔ ∃ i < a.length, ∃ j < b.length,
      a.physical.toNat + 4 * i = b.physical.toNat + 4 * j)) ∧
  ∀ (s : State) (before after : List Entry) (e : Entry),
    s.queue.entries = before ++ e :: after → (∀ a ∈ before, a.id ≠ e.id) →
    let c := s.classTable.classes[e.cls]
    let order := ∀ a ∈ before, a.requester = e.requester → a.state ≠ .waiting
    let hazard := ∀ a ∈ before, overlap a e = false
    let level := 1 ≤ c.level.val
    let credit := c.mode = .free ∨ c.mode = .report ∨ (c.mode = .enforce ∧ 1 ≤ c.credit)
    let slot := e.kind.isBit = false ∨ s.slots.length < 2
    let port := s.mem.port = .running ∧ s.mem.ready = true ∧ ∃ n : Fin 8, s.mem.tags[n] = .free
    (s.eligible e = true ↔
      e.state = .waiting ∧ order ∧ hazard ∧ level ∧ credit ∧ slot ∧ port) ∧
    (¬ order → s.holdReason e = .order) ∧
    (order → ¬ hazard → s.holdReason e = .hazard) ∧
    (order → hazard → ¬ level → s.holdReason e = .level) ∧
    (order → hazard → level → ¬ credit → s.holdReason e = .credit) ∧
    (order → hazard → level → credit → ¬ slot → s.holdReason e = .slot) ∧
    (order → hazard → level → credit → slot → s.holdReason e = .port)

/-- R69 to R72, R64: the grant goes to the eligible entry of the highest level, of several the oldest, on
the FREE tag with the lowest number, and is one event: the class is charged (and OVERRUN reported
when the charge says so), a bit operation takes a slot, the tag becomes BUSY with the response limit
as it stands, the entry is granted, and its request is issued. -/
def Obligations.GrantIssuesHighestLevelOldest : Prop :=
  ∀ (s : State) (before after : List Entry) (e : Entry) (n : Fin 8),
    s.resetAsserted = false → s.mem.writeBacks = [] →
    s.queue.entries = before ++ e :: after → (s.queue.entries.map Entry.id).Nodup →
    (s.sampleReady true).eligible e = true →
    (∀ b ∈ before, (s.sampleReady true).eligible b = true →
      s.classTable.classes[b.cls].level < s.classTable.classes[e.cls].level) →
    (∀ a ∈ after, (s.sampleReady true).eligible a = true →
      s.classTable.classes[a.cls].level ≤ s.classTable.classes[e.cls].level) →
    s.mem.tags[n] = .free → (∀ m : Fin 8, m < n → s.mem.tags[m] ≠ .free) →
    let c := s.classTable.classes[e.cls]
    let base :=
      if overruns c e.words then
        s.report .overrun
          { requester := some e.requester, address := e.upAddress, window := e.origin.ref,
            cls := some e.cls, code := none }
      else s
    exec (.grant true) s = .next
      ({ base with
        classTable :=
          { s.classTable with classes := s.classTable.classes.set e.cls (c.charged e.words) },
        slots := s.slots ++
          (e.kind.opBit.map fun p =>
            ({ owner := e.id, dtag := n, word := e.physical, op := p.1, bit := p.2,
               fetched := none } : Slot)).toList,
        mem :=
          { s.mem with
            ready := true,
            tags := s.mem.tags.set n
              (.busy e.id
                (match e.kind with
                | .plainRead => .read
                | .plainWrite _ _ => .write
                | .bitRead _ _ => .fetch
                | .bitWrite _ _ => .fetch)
                (some { limit := s.settings.responseLimit, timer := 0 })),
            requests := s.mem.requests ++
              [match e.kind with
               | .plainRead =>
                 { tag := n, direction := .read, address := e.physical, length := e.length,
                   byteEnables := none, data := [] }
               | .plainWrite be data =>
                 { tag := n, direction := .write, address := e.physical, length := e.length,
                   byteEnables := be, data := data }
               | .bitRead _ _ =>
                 { tag := n, direction := .read, address := e.physical, length := 1,
                   byteEnables := none, data := [] }
               | .bitWrite _ _ =>
                 { tag := n, direction := .read, address := e.physical, length := 1,
                   byteEnables := none, data := [] }] },
        queue :=
          { s.queue with
            entries := before ++
              { e with
                state := if e.kind.isBit then .fetching else .issued, dtag := some n } ::
              after } } : State).judge

/-- R69, R73, R79, R83: when the port is not RUNNING, memory is not ready, no tag is FREE, a write-back waits,
RESETN is asserted or no entry is eligible, the arbiter makes no grant. That memory's ready, the
command's operand, is then held as its last sample is the model's choice (log 10). -/
def Obligations.NoGrantWhenAConditionFails : Prop :=
  ∀ (s : State) (ready : Bool),
    (s.mem.port ≠ .running ∨ ready = false ∨ (∀ n : Fin 8, s.mem.tags[n] ≠ .free) ∨
      s.mem.writeBacks ≠ [] ∨ s.resetAsserted = true ∨
      ∀ e ∈ s.queue.entries, (s.sampleReady ready).eligible e = false) →
    exec (.grant ready) s = .next { s with mem := { s.mem with ready := ready } }

/-- R37: the entry whose hold timer has reached its limit while WAITING completes with HOLD_TIMEOUT, and
HOLD_TIMEOUT receives one occurrence with the hold reason read before. With no WAITING entry of that
name that has a hold limit, no expiry takes place. -/
def Obligations.HoldTimerExpiryCompletesTheEntry : Prop :=
  ∀ (s : State) (requester : Requester) (tag : Fin 4),
    (∀ e, s.findEntry { requester := requester, tag := tag } = some e → e.state = .waiting →
      e.holdLimit ≠ 0 → e.holdLimit ≤ e.holdTimer →
      exec (.holdTimerExpiry requester tag) s = .next
        ((s.complete e .holdTimeout [] false).report .holdTimeout
          { requester := some e.requester, address := e.upAddress, window := e.origin.ref,
            cls := some e.cls, code := some (.hold (s.holdReason e)) }).judge) ∧
    ((∀ e ∈ s.queue.entries, e.requester = requester → e.tag = tag →
        e.state ≠ .waiting ∨ e.holdLimit = 0) →
      exec (.holdTimerExpiry requester tag) s = .next s)

/-- R38, R43, R153, R179: at the completion of an entry the entry leaves the queue; a bus requester's
response is sent and its pair becomes FREE; the monitor requester's outcome, OK, HOLD_TIMEOUT, MEM_ERROR or MEM_TIMEOUT, goes to the monitor result record and
into the code of one MONITOR_DONE occurrence; WATCH receives one occurrence exactly when
the outcome is OK, the entry wrote memory and its origin window's watch flag is on now; the drain is
DRAINED when the last masked entry has left. Nothing else changes. -/
def Obligations.CompletionDeliversTheOutcome : Prop :=
  ∀ (s : State) (e : Entry) (o : UpOutcome) (data : List Word) (wrote : Bool) (t : State),
    t = s.complete e o data wrote →
    let held : Option MonitorOutcome :=
      match o with
      | .ok => some .ok
      | .holdTimeout => some .holdTimeout
      | .memError => some .memError
      | .memTimeout => some .memTimeout
      | _ => none
    t.queue = { s.queue with entries := s.queue.entries.filter (fun x => x.id ≠ e.id) } ∧
    (∀ n, e.requester = .bus n →
      t.upstream =
        { s.upstream with
          tagBusy := s.upstream.tagBusy.set n (s.upstream.tagBusy[n].set e.tag false),
          responses := s.upstream.responses ++
            [{ requester := n, tag := e.tag, outcome := o, data := data }] } ∧
      t.service = s.service ∧ t.source .monitorDone = s.source .monitorDone) ∧
    (e.requester = .monitor →
      t.upstream = s.upstream ∧
      t.service =
        { s.service with
          monitor := { state := .done, outcome := held, data := data.headD 0 } } ∧
      t.source .monitorDone = (s.source .monitorDone).record
        { requester := some .monitor, address := e.physical, window := none, cls := some e.cls,
          code := match held with
            | some m => some (.outcome m)
            | none => none }) ∧
    (∀ w, o = .ok → wrote = true → e.origin = .window w → s.windows[w].watch = true →
      t.source .watch = (s.source .watch).record
        { requester := some e.requester, address := e.upAddress, window := some (.window w),
          cls := some e.cls, code := some (if e.kind.isBit then .bit else .plain) }) ∧
    ((o ≠ .ok ∨ wrote = false ∨ ∀ w, e.origin = .window w → s.windows[w].watch = false) →
      t.source .watch = s.source .watch) ∧
    (∀ src : Source, src ≠ .watch → src ≠ .monitorDone → t.source src = s.source src) ∧
    ((s.drain.state = .draining ∨ s.drain.state = .stuck) →
      inMask s.drain.mask e.requester = true →
      (∀ x ∈ t.queue.entries, inMask s.drain.mask x.requester = false) →
      t.drain = { s.drain with state := .drained }) ∧
    ((s.drain.state = .none ∨ s.drain.state = .drained ∨
        inMask s.drain.mask e.requester = false ∨
        ∃ x ∈ t.queue.entries, inMask s.drain.mask x.requester = true) →
      t.drain = s.drain) ∧
    t.pending = s.pending ∧ t.freeCount = s.freeCount ∧ t.resetAsserted = s.resetAsserted ∧
    t.windows = s.windows ∧ t.cursors = s.cursors ∧ t.settings = s.settings ∧
    t.classTable = s.classTable ∧ t.mem = s.mem ∧ t.slots = s.slots ∧
    t.events.floor = s.events.floor ∧ t.events.stack = s.events.stack ∧
    t.events.irqn = s.events.irqn

/-- R41, R42, R157: FLUSH removes every WAITING entry of the masked requesters, sends each a FLUSHED response
oldest first, reports no occurrence, replies their number, and leaves the granted entries, the other
requesters' entries and the monitor entry. A drain that has lost its last masked entry is DRAINED. -/
def Obligations.FlushCompletesWaitingEntries : Prop :=
  ∀ (s : State) (mask : Byte), s.inCommand → s.QueueLegal → s.DrainLegal →
    let goes (e : Entry) : Bool := decide (e.state = .waiting) && inMask mask e.requester
    let gone := s.queue.entries.filter goes
    ∃ t, exec (.flush mask) s = .next t ∧
      t.queue = { s.queue with entries := s.queue.entries.filter (fun e => !goes e) } ∧
      t.upstream.responses = s.upstream.responses ++
        gone.flatMap (fun e => match e.requester with
          | .bus n => [{ requester := n, tag := e.tag, outcome := .flushed, data := [] }]
          | .monitor => []) ∧
      t.upstream.offered = s.upstream.offered ∧
      (∀ (r : Fin 8) (g : Fin 4), t.tagIsBusy r g = true ↔
        ∃ e ∈ t.queue.entries, e.requester = .bus r ∧ e.tag = g) ∧
      t.service =
        { s.service with frame := .reply, reply := [0x01, BitVec.ofNat 8 gone.length] } ∧
      t.drain.state =
        (if (s.drain.state = .draining ∨ s.drain.state = .stuck) ∧
            t.maskedEntry s.drain.mask = false then .drained
         else s.drain.state) ∧
      t.drain.mask = s.drain.mask ∧ t.drain.limit = s.drain.limit ∧
      t.drain.timer = s.drain.timer ∧
      (∀ src : Source, src.isLevel = false → t.source src = s.source src) ∧
      (∀ src : Source, src.isLevel = true →
        t.source src = { s.source src with pending := (t.source src).pending }) ∧
      t.EventsJudged ∧
      t.pending = s.pending ∧ t.freeCount = s.freeCount ∧ t.resetAsserted = s.resetAsserted ∧ t.windows = s.windows ∧
      t.cursors = s.cursors ∧ t.settings = s.settings ∧ t.classTable = s.classTable ∧
      t.mem = s.mem ∧ t.slots = s.slots ∧ t.events.floor = s.events.floor ∧
      t.events.stack = s.events.stack

/-! ## The service classes -/

/-- R52 to R54, R96, Table 3-3: the words counted, and the class record after the grant of `k` words. -/
def Obligations.ClassChargeAtGrant : Prop :=
  (∀ e : Entry,
    (e.kind.isBit = false → e.words = e.length) ∧
    (∀ bit, e.kind = .bitRead .test bit ∨ e.kind = .bitWrite .test bit → e.words = 1) ∧
    (∀ op bit, op ≠ .test → e.kind = .bitRead op bit ∨ e.kind = .bitWrite op bit →
      e.words = 2)) ∧
  ∀ (c : ClassRecord) (k : Nat),
    (c.charged k).credit = (if c.mode = .enforce then c.credit - k else c.credit) ∧
    (c.charged k).usedNow = min 65535 (c.usedNow + k) ∧
    (overruns c k = true ↔
      c.mode = .report ∧ c.budget.toNat < min 65535 (c.usedNow + k) ∧ c.overrun = false) ∧
    (c.charged k).overrun = (c.overrun || overruns c k) ∧
    (c.charged k).level = c.level ∧ (c.charged k).mode = c.mode ∧
    (c.charged k).budget = c.budget ∧ (c.charged k).carry = c.carry ∧
    (c.charged k).usedLast = c.usedLast

/-- R55, R57, R58: when the service-interval timer has reached the interval's length, every class's credit
becomes budget plus the smaller of credit and carry limit, used_last takes used_now, used_now and the
overrun flag are cleared, the next interval begins with the interval setting's length, and INTERVAL
receives one occurrence. -/
def Obligations.IntervalExpiryRefills : Prop :=
  ∀ s : State, s.resetAsserted = false → s.classTable.length ≤ s.classTable.timer →
    exec .intervalExpiry s = .next
      (({ s with
        classTable :=
          { classes := Vector.ofFn fun k : Fin 8 =>
              let c := s.classTable.classes[k]
              { c with
                credit := (c.budget.toNat : Int) + min c.credit (c.carry.toNat : Int),
                usedLast := c.usedNow, usedNow := 0, overrun := false },
            length := s.settings.interval, timer := 0 } } : State).report .interval
        { requester := none, address := 0, window := none, cls := none, code := none }).judge

/-- R59, R173: CLASS-WRITE with a number and a level of 0–7 and a mode byte of 0 FREE, 1 ENFORCE or 2 REPORT
replaces level, mode, budget and carry limit and clips the credit; otherwise it is answered RANGE and
no record changes. -/
def Obligations.ClassWriteClipsCredit : Prop :=
  ∀ (s : State) (number level mode : Byte) (budget carry : Half), s.inCommand →
    (∀ (k l : Fin 8) (m : ClassMode), k.val = number.toNat → l.val = level.toNat → m.byte = mode →
      exec (.classWrite number level mode budget carry) s = .next
        (({ s with
          classTable :=
            { s.classTable with
              classes := s.classTable.classes.set k
                { s.classTable.classes[k] with
                  level := l, mode := m, budget := budget, carry := carry,
                  credit := min s.classTable.classes[k].credit
                    ((budget.toNat : Int) + (carry.toNat : Int)) } } } :
          State).replying [0x01])) ∧
    (7 < number.toNat ∨ 7 < level.toNat ∨ 2 < mode.toNat →
      exec (.classWrite number level mode budget carry) s = .next (s.replying [0x03]))

/-! ## The memory port -/

/-- R77: an answer taken while the port is RUNNING or STALLED for a QUARANTINED tag frees the tag and is
discarded. R78: one for a FREE tag is discarded and MEM_ERROR receives one occurrence with code
STRAY. -/
def Obligations.LateAndStrayAnswers : Prop :=
  ∀ (s : State) (n : Fin 8) (outcome : AnswerOutcome) (data : List Word),
    s.resetAsserted = false → s.mem.port = .running ∨ s.mem.port = .stalled →
    (s.mem.tags[n] = .quarantined → exec (.memoryAnswer n outcome data) s = .next
      { s with mem := { s.mem with tags := s.mem.tags.set n .free } }) ∧
    (s.mem.tags[n] = .free → exec (.memoryAnswer n outcome data) s = .next
      (s.report .memError
        { requester := none, address := 0, window := none, cls := none,
          code := some .stray }).judge)

/-- R82, R83: an answer taken while the port is RECOVERING or while RESETN is asserted is discarded with no
effect. R101: an answer for a BUSY tag whose write-back has not been issued is discarded as STRAY. -/
def Obligations.AnswersWithoutAnAccess : Prop :=
  ∀ (s : State) (n : Fin 8) (outcome : AnswerOutcome) (data : List Word),
    (s.resetAsserted = true ∨ s.mem.port = .recovering →
      exec (.memoryAnswer n outcome data) s = .next s) ∧
    (∀ o p, s.resetAsserted = false → s.mem.port = .running →
      s.mem.tags[n] = .busy o p none → exec (.memoryAnswer n outcome data) s = .next
        (s.report .memError
          { requester := none, address := 0, window := none, cls := none,
            code := some .stray }).judge)

/-- R39, R74: an OK answer to the issued access of a PLAIN entry frees the tag and completes the owner with
OK: a read with the words of the answer, a write with no data, having written memory. An OK answer to
a read with another number of words is the access's answer too, and the entry completes with its
number of words, which are free (R23, R65; the spec states no words there: the model's choice, log
18). -/
def Obligations.OkAnswerCompletesPlainAccess : Prop :=
  ∀ (s : State) (n : Fin 8) (o : EntryId) (p : Phase) (i : Issued) (e : Entry) (data : List Word),
    s.resetAsserted = false → s.mem.port = .running → s.mem.tags[n] = .busy o p (some i) →
    s.findEntry o = some e →
    let freed : State := { s with mem := { s.mem with tags := s.mem.tags.set n .free } }
    (p = .read → data.length = e.length → exec (.memoryAnswer n .ok data) s =
      .next (freed.complete e .ok data false).judge) ∧
    (p = .read → data.length ≠ e.length → ∃ words : List Word, words.length = e.length ∧
      exec (.memoryAnswer n .ok data) s = .next (freed.countFree.complete e .ok words false).judge) ∧
    (p = .write → exec (.memoryAnswer n .ok data) s =
      .next (freed.complete e .ok [] true).judge)

/-- R74, R87, R92, R95: an OK answer to a fetch. When the operation writes, the word, the new word and the
decision are stored in the owner's slot, the owner is WRITING_BACK and its write-back waits; when it
does not, the tag and the slot are freed and the owner completes with OK. An OK answer to a fetch
with another number of words than one acts as one with a word that is free (the spec states no word
there: the model's choice, log 18). -/
def Obligations.FetchAnswerDecidesWriteBack : Prop :=
  ∀ (s : State) (n : Fin 8) (o : EntryId) (i : Issued) (e : Entry) (op : BitOp) (bit : Fin 32)
    (word : Word),
    s.resetAsserted = false → s.mem.port = .running →
    s.mem.tags[n] = .busy o .fetch (some i) → s.findEntry o = some e →
    e.kind = .bitRead op bit ∨ e.kind = .bitWrite op bit →
    let old := word.getLsbD bit.val
    let writes := op = .change ∨ (op = .set ∧ old = false) ∨ (op = .clear ∧ old = true)
    (writes → exec (.memoryAnswer n .ok [word]) s = .next
      ({ s with
        slots := s.slots.map fun x =>
          if x.owner = o then
            { x with
              fetched := some
                { word := word, newWord := word ^^^ (1#32 <<< bit.val), write := true } }
          else x,
        queue :=
          { s.queue with
            entries := s.queue.entries.map fun x =>
              if x.id = o then { x with state := .writingBack } else x },
        mem :=
          { s.mem with
            tags := s.mem.tags.set n (.busy o .writeBack none),
            writeBacks := s.mem.writeBacks ++ [n] } } : State).judge) ∧
    (¬ writes → exec (.memoryAnswer n .ok [word]) s = .next
      (({ s with
        slots := s.slots.filter fun x => x.owner ≠ o,
        mem := { s.mem with tags := s.mem.tags.set n .free } } : State).complete e .ok
        (if e.kind = .bitRead op bit then [if old then 1 else 0] else []) false).judge) ∧
    (∀ data : List Word, data.length ≠ 1 → ∃ word' : Word,
      exec (.memoryAnswer n .ok data) s = exec (.memoryAnswer n .ok [word']) s.countFree)

/-- R73, R93: with memory ready the oldest waiting write-back is issued on its own tag, with the response
limit as it stands and the timer at zero; with memory not ready, or none waiting, nothing is issued,
and that ready is then held as its last sample is the model's choice (log 10). R94, R95: an OK answer to an issued write-back frees the tag and the slot and completes the
owner with OK, having written memory. -/
def Obligations.WriteBackIsIssuedAndAnswered : Prop :=
  (∀ (s : State) (n : Fin 8) (rest : List (Fin 8)) (o : EntryId) (p : Phase) (i : Option Issued)
    (x : Slot) (f : Fetched),
    s.mem.writeBacks = n :: rest → s.mem.tags[n] = .busy o p i → s.slotOf o = some x →
    x.fetched = some f → exec (.writeBackIssue true) s = .next
      { s with
        mem :=
          { s.mem with
            ready := true, writeBacks := rest,
            tags := s.mem.tags.set n
              (.busy o .writeBack (some { limit := s.settings.responseLimit, timer := 0 })),
            requests := s.mem.requests ++
              [{ tag := x.dtag, direction := .write, address := x.word, length := 1,
                 byteEnables := some 0b1111, data := [f.newWord] }] } }) ∧
  (∀ (s : State) (ready : Bool), ready = false ∨ s.mem.writeBacks = [] →
    exec (.writeBackIssue ready) s = .next { s with mem := { s.mem with ready := ready } }) ∧
  (∀ (s : State) (n : Fin 8) (o : EntryId) (i : Issued) (e : Entry) (x : Slot) (f : Fetched)
    (data : List Word),
    s.resetAsserted = false → s.mem.port = .running →
    s.mem.tags[n] = .busy o .writeBack (some i) → s.findEntry o = some e →
    s.slotOf o = some x → x.fetched = some f →
    exec (.memoryAnswer n .ok data) s = .next
      (({ s with
        slots := s.slots.filter fun y => y.owner ≠ o,
        mem := { s.mem with tags := s.mem.tags.set n .free } } : State).complete e .ok
        (match e.kind with
          | .bitRead _ bit =>
            [(if f.word.getLsbD bit.val then 1 else 0) + (if f.write then 2 else 0)]
          | _ => []) true).judge)

/-- R75, R97, R99: an ERROR answer to an issued access frees the tag and the slot, completes the owner with
MEM_ERROR and no data, and MEM_ERROR receives one occurrence with the physical address and the phase. -/
def Obligations.ErrorAnswerEndsTheAccess : Prop :=
  ∀ (s : State) (n : Fin 8) (o : EntryId) (p : Phase) (i : Issued) (e : Entry) (data : List Word),
    s.resetAsserted = false → s.mem.port = .running → s.mem.tags[n] = .busy o p (some i) →
    s.findEntry o = some e →
    exec (.memoryAnswer n .error data) s = .next
      ((({ s with
        slots := s.slots.filter fun x => x.owner ≠ o,
        mem := { s.mem with tags := s.mem.tags.set n .free } } : State).complete e .memError []
        false).report .memError
        { requester := some e.requester, address := e.physical, window := e.origin.ref,
          cls := some e.cls, code := some (.phase p) }).judge

/-- R76, R79, R98, R100: when a tag's response timer has reached its limit the tag is QUARANTINED, the slot
is freed, the owner completes with MEM_TIMEOUT and no data, MEM_TIMEOUT receives one occurrence, and
a RUNNING port is STALLED when all eight tags are now QUARANTINED. A tag with no running response
timer does not expire. -/
def Obligations.ResponseTimeoutQuarantines : Prop :=
  ∀ (s : State) (n : Fin 8),
    (∀ (o : EntryId) (p : Phase) (i : Issued) (e : Entry),
      s.mem.tags[n] = .busy o p (some i) → i.limit ≤ i.timer → s.findEntry o = some e →
      let t :=
        (({ s with
          slots := s.slots.filter fun x => x.owner ≠ o,
          mem := { s.mem with tags := s.mem.tags.set n .quarantined } } : State).complete e
          .memTimeout [] false).report .memTimeout
          { requester := some e.requester, address := e.physical, window := e.origin.ref,
            cls := some e.cls, code := some (.phase p) }
      (s.mem.port = .running → (∀ m : Fin 8, m ≠ n → s.mem.tags[m] = .quarantined) →
        exec (.responseTimerExpiry n) s =
          .next ({ t with mem := { t.mem with port := .stalled } } : State).judge) ∧
      ((s.mem.port ≠ .running ∨ ∃ m : Fin 8, m ≠ n ∧ s.mem.tags[m] ≠ .quarantined) →
        exec (.responseTimerExpiry n) s = .next t.judge)) ∧
    ((∀ (o : EntryId) (p : Phase) (i : Issued), s.mem.tags[n] ≠ .busy o p (some i)) →
      exec (.responseTimerExpiry n) s = .next s)

/-- R81: FAULT-CLEAR on a STALLED port is answered DONE and starts recovery; otherwise it is answered BUSY
and has no effect. R82: when the recovery timer has reached 10 µs, MRSTN is released, all eight tags
are FREE and the port is RUNNING; out of RECOVERING there is no such expiry. -/
def Obligations.FaultClearAndRecovery : Prop :=
  ∀ s : State,
    (s.inCommand → s.mem.port = .stalled → exec .faultClear s = .next
      (({ s with
        mem := { s.mem with port := .recovering, mrstn := true, recoveryTimer := 0 } } :
        State).judge.replying [0x01])) ∧
    (s.inCommand → s.mem.port ≠ .stalled → exec .faultClear s = .next (s.replying [0x02])) ∧
    (s.mem.port = .recovering → 10 ≤ s.mem.recoveryTimer → exec .endOfRecovery s = .next
      ({ s with
        mem :=
          { s.mem with
            port := .running, mrstn := false, tags := Vector.replicate 8 .free } } :
        State).judge) ∧
    (s.mem.port ≠ .recovering → exec .endOfRecovery s = .next s)

/-- Tables 5-3 and 5-4, R87, R95: which operations write, the new word, and the response word. -/
def Obligations.BitOperationTables : Prop :=
  ∀ (op : BitOp) (bit : Fin 32) (word : Word),
    let old := word.getLsbD bit.val
    let f := fetchedOf op bit word
    f.word = word ∧
    (f.write = true ↔ op = .change ∨ (op = .set ∧ old = false) ∨ (op = .clear ∧ old = true)) ∧
    (∀ j, j ≠ bit.val → f.newWord.getLsbD j = word.getLsbD j) ∧
    f.newWord.getLsbD bit.val =
      (match op with
        | .test => old
        | .set => true
        | .clear => false
        | .change => !old) ∧
    responseWord bit f =
      (match op with
        | .test => if old then 0x00000001 else 0x00000000
        | .set => if old then 0x00000001 else 0x00000002
        | .clear => if old then 0x00000003 else 0x00000000
        | .change => if old then 0x00000003 else 0x00000002)

/-! ## Windows, cursors and rotation -/

/-- R5 to R11, R171: WINDOW-WRITE with an index above 15 is answered RANGE; with valid = no the record is
zeroed and its cursor discarded; a valid record is stored whole when every check passes, an APERTURE
record with its cursor at (0, 0), READY, another kind with none, and is otherwise answered RANGE with
nothing changed. -/
def Obligations.WindowWriteStoresOrRefuses : Prop :=
  ∀ (s : State) (index : Byte) (b : WindowBytes), s.inCommand →
    (15 < index.toNat → exec (.windowWrite index b) s = .next (s.replying [0x03])) ∧
    (∀ w : Fin 16, w.val = index.toNat →
      (b.flags.getLsbD 0 = false → exec (.windowWrite index b) s = .next
        (({ s with
          windows := s.windows.set w WindowRecord.zeroed,
          cursors := s.cursors.set w none } : State).judge.replying [0x01])) ∧
      (b.flags.getLsbD 0 = true → Acceptable b →
        ∃ r : WindowRecord, r.Stores b ∧ exec (.windowWrite index b) s = .next
          (({ s with
            windows := s.windows.set w r,
            cursors := s.cursors.set w
              (if b.kind = 2 then some { row := 0, column := 0, exhausted := false }
               else none) } : State).judge.replying [0x01])) ∧
      (b.flags.getLsbD 0 = true → ¬ Acceptable b →
        exec (.windowWrite index b) s = .next (s.replying [0x03])))

/-- R117, R172: CURSOR-SET places the cursor of a valid APERTURE window on a cell of its region, READY, and
is otherwise answered RANGE with no cursor changed. -/
def Obligations.CursorSetPlacesTheCursor : Prop :=
  ∀ (s : State) (index : Byte) (row column : Half), s.inCommand →
    (15 < index.toNat → exec (.cursorSet index row column) s = .next (s.replying [0x03])) ∧
    (∀ w : Fin 16, w.val = index.toNat →
      (s.windows[w].valid = true → s.windows[w].kind = .aperture →
        row.toNat < s.windows[w].rows → column.toNat < s.windows[w].columns →
        exec (.cursorSet index row column) s = .next
          (({ s with
            cursors := s.cursors.set w
              (some { row := row.toNat, column := column.toNat, exhausted := false }) } :
            State).judge.replying [0x01])) ∧
      (s.windows[w].valid = false ∨ s.windows[w].kind ≠ .aperture ∨
        s.windows[w].rows ≤ row.toNat ∨ s.windows[w].columns ≤ column.toNat →
        exec (.cursorSet index row column) s = .next (s.replying [0x03])))

/-- R127, R128, R129: ROTATE of a valid RING window in ABSOLUTE mode (0) sets S to a value below M, in ADVANCE
mode (1) sets it to (S + value) mod M for a value of 1–255, and replies S; every other ROTATE is
answered RANGE with no record changed. One advance by v gives the start that v advances by 1 give, and
after it rotating block b reaches what block b + v reached before, counted cyclically. -/
def Obligations.RotateMovesTheStart : Prop :=
  ∀ (s : State) (index mode value : Byte), s.inCommand →
    (15 < index.toNat → exec (.rotate index mode value) s = .next (s.replying [0x03])) ∧
    (∀ w : Fin 16, w.val = index.toNat →
      let x := s.windows[w]
      let m := x.ringN - x.ringH - x.ringT
      let moved (start : Nat) : Result := .next
        (({ s with windows := s.windows.set w { x with ringS := start } } : State).replying
          [0x01, BitVec.ofNat 8 start])
      (x.valid = true → x.kind = .ring → mode = 0 → value.toNat < m →
        exec (.rotate index mode value) s = moved value.toNat) ∧
      (x.valid = true → x.kind = .ring → mode = 1 → 1 ≤ value.toNat →
        exec (.rotate index mode value) s = moved ((x.ringS + value.toNat) % m)) ∧
      (x.valid = false ∨ x.kind ≠ .ring ∨ (mode = 0 ∧ m ≤ value.toNat) ∨
        (mode = 1 ∧ value = 0) ∨ (mode ≠ 0 ∧ mode ≠ 1) →
        exec (.rotate index mode value) s = .next (s.replying [0x03])) ∧
      (∀ v, 1 ≤ v →
        (fun start => (start + 1) % m)^[v] x.ringS = (x.ringS + v) % m ∧
        ∀ i < m, ringBlock { x with ringS := (x.ringS + v) % m } (x.ringH + i) =
          ringBlock x (x.ringH + (i + v) % m)))

/-! ## Settings and DEFAULTS -/

/-- R174, Table 10-8: SETTINGS-WRITE takes all eight settings as one event when each is in its range, and
QUEUE_HIGH is judged again; otherwise it is answered RANGE and every setting keeps its value. R159,
R160: DEFAULTS is accepted when the drain is DRAINED with all eight requesters masked and the queue is
empty; it then resets the windows, discards the cursors, resets the classes and the settings, and
leaves the rest, the interval in progress included (R56); otherwise it is answered BUSY and changes
nothing. -/
def Obligations.SettingsWriteAndDefaults : Prop :=
  (∀ (s : State) (b : SettingsBytes), s.inCommand →
    let outside :=
      b.interval.toNat = 0 ∨ 4096 < b.interval.toNat ∨ b.responseLimit.toNat = 0 ∨
        1023 < b.responseLimit.toNat ∨ b.drainLimit.toNat = 0 ∨ b.threshold.toNat = 0 ∨
        24 < b.threshold.toNat ∨ 7 < b.monitorClass.toNat ∨ 7 < b.defaultClass.toNat
    (outside → exec (.settingsWrite b) s = .next (s.replying [0x03])) ∧
    (¬ outside → ∃ monitorClass defaultClass : Fin 8,
      monitorClass.val = b.monitorClass.toNat ∧ defaultClass.val = b.defaultClass.toNat ∧
      exec (.settingsWrite b) s = .next
        (({ s with
          settings :=
            { interval := b.interval.toNat, holdLimit := b.holdLimit.toNat,
              responseLimit := b.responseLimit.toNat, drainLimit := b.drainLimit.toNat,
              threshold := b.threshold.toNat, monitorClass := monitorClass,
              defaultClass := defaultClass, deny := b.flags.getLsbD 0 } } :
          State).judge.replying [0x01]))) ∧
  (∀ s : State, s.inCommand →
    (s.drain.state = .drained → s.drain.mask = 0xFF → s.queue.entries = [] →
      exec .defaults s = .next
        (({ s with
          windows := Vector.replicate 16 WindowRecord.zeroed,
          cursors := Vector.replicate 16 none,
          classTable :=
            { s.classTable with
              classes := Vector.replicate 8
                { level := 4, mode := .free, budget := 0, carry := 0, credit := 0, usedNow := 0,
                  usedLast := 0, overrun := false } },
          settings :=
            { interval := 1000, holdLimit := 0, responseLimit := 100, drainLimit := 10,
              threshold := 20, monitorClass := 0, defaultClass := 0, deny := false } } :
          State).judge.replying [0x01])) ∧
    (s.drain.state ≠ .drained ∨ s.drain.mask ≠ 0xFF ∨ s.queue.entries ≠ [] →
      exec .defaults s = .next (s.replying [0x02])))

/-! ## Monitor access -/

/-- R40, R178: a monitor command with an unaligned address is answered RANGE; otherwise, with the record
BUSY or twenty-four entries in the queue, BUSY; otherwise its entry is admitted, the record becomes
BUSY, and the reply is the admission stamp. -/
def Obligations.MonitorAccessIsJudgedInOrder : Prop :=
  ∀ (s : State) (address data : Word), s.inCommand →
    let accepted (kind : EntryKind) : Result := .next
      (({ s with
        queue :=
          { entries := s.queue.entries ++
              [{ requester := .monitor, tag := 0, upAddress := address, origin := .monitor,
                 kind := kind, physical := address, length := 1,
                 cls := s.settings.monitorClass, stamp := s.queue.stamp,
                 holdLimit := s.settings.holdLimit, holdTimer := 0, state := .waiting,
                 dtag := none }],
            stamp := s.queue.stamp + 1 },
        service :=
          { s.service with
            monitor := { state := .busy, outcome := none, data := 0 } } } :
        State).judge.replying
        [0x01, s.queue.stamp.extractLsb' 8 8, s.queue.stamp.extractLsb' 0 8])
    (address.toNat % 4 ≠ 0 →
      exec (.monitorRead address) s = .next (s.replying [0x03]) ∧
      exec (.monitorWrite address data) s = .next (s.replying [0x03])) ∧
    (address.toNat % 4 = 0 → s.service.monitor.state = .busy ∨ 24 ≤ s.queue.entries.length →
      exec (.monitorRead address) s = .next (s.replying [0x02]) ∧
      exec (.monitorWrite address data) s = .next (s.replying [0x02])) ∧
    (address.toNat % 4 = 0 → s.service.monitor.state ≠ .busy → s.queue.entries.length < 24 →
      exec (.monitorRead address) s = accepted .plainRead ∧
      exec (.monitorWrite address data) s = accepted (.plainWrite (some 0b1111) [data]))

/-- R180: MONITOR-RESULT replies the record; a DONE record returns to IDLE with outcome none and data 0,
an IDLE or BUSY one is not changed. The event sources are not touched. -/
def Obligations.MonitorResultCollects : Prop :=
  ∀ s : State, s.inCommand →
    let m := s.service.monitor
    let bytes : List Byte :=
      [0x01,
       (match m.state with
        | .idle => 0x00
        | .busy => 0x01
        | .done => 0x02),
       (match m.outcome with
        | none => 0xFF
        | some .ok => 0x00
        | some .holdTimeout => 0x06
        | some .memError => 0x08
        | some .memTimeout => 0x09),
       m.data.extractLsb' 24 8, m.data.extractLsb' 16 8, m.data.extractLsb' 8 8,
       m.data.extractLsb' 0 8]
    (m.state = .done → exec .monitorResult s = .next
      (({ s with
        service :=
          { s.service with monitor := { state := .idle, outcome := none, data := 0 } } } :
        State).replying bytes)) ∧
    (m.state ≠ .done → exec .monitorResult s = .next (s.replying bytes))

/-! ## Events -/

/-- R137: EVENT-SETUP of a source of 1–12 with a level of 0–7 sets that source's level and nothing else,
and IRQN is judged again; otherwise it is answered RANGE and no level changes. -/
def Obligations.EventSetupSetsALevel : Prop :=
  ∀ (s : State) (source level : Byte), s.inCommand →
    (source.toNat = 0 ∨ 12 < source.toNat ∨ 7 < level.toNat →
      exec (.eventSetup source level) s = .next (s.replying [0x03])) ∧
    (∀ src : Source, src ≠ .fault → src.vector.val = source.toNat → level.toNat ≤ 7 →
      exec (.eventSetup source level) s = .next
        (({ s with
          events :=
            { s.events with
              sources := s.events.sources.set src.vector
                { s.events.sources[src.vector] with level := level.toNat } } } :
          State).judge.replying [0x01]))

/-- R146: EVENT-FLOOR with a value of 0–7 is answered DONE and sets the floor, leaving the stack, and IRQN
is judged again; a value of 8 or more is answered RANGE and the floor stays. A pending FAULT, at
level 8, is above every such floor. R145: EVENT-RESTORE pops the top of the floor stack into the
floor and replies it; with an empty stack it is answered RANGE and the floor stays. -/
def Obligations.EventFloorAndRestore : Prop :=
  ∀ s : State, s.inCommand →
    (∀ value : Byte, value.toNat ≤ 7 →
      exec (.eventFloor value) s = .next
        (({ s with events := { s.events with floor := value.toNat } } :
          State).judge.replying [0x01]) ∧
      (s.EventsLegal → s.mem.port = .stalled →
        ({ s with events := { s.events with floor := value.toNat } } :
          State).judge.events.irqn = true) ∧
      (s.EventsLegal → value.toNat = 7 → ∀ src : Source, src ≠ .fault →
        ({ s with events := { s.events with floor := value.toNat } } :
          State).judge.aboveFloor src = false)) ∧
    (∀ value : Byte, 8 ≤ value.toNat →
      exec (.eventFloor value) s = .next (s.replying [0x03])) ∧
    (∀ top rest, s.events.stack = top :: rest → exec .eventRestore s = .next
      (({ s with events := { s.events with floor := top, stack := rest } } :
        State).judge.replying [0x01, BitVec.ofNat 8 top])) ∧
    (s.events.stack = [] → exec .eventRestore s = .next (s.replying [0x03]))

/-- R141, R142: EVENT-TAKE. With four saved floors, or with no pending source above the floor, the reply is
NONE and nothing changes. Otherwise the source of the highest level, and of several the lowest
vector, is returned, the floor is saved and becomes its level, and an edge source is emptied. The
event reply is vector, level, count, flags and the detail. R44, R80, R116, R156: the snapshot that a
level source gives as its detail: FAULT the number of QUARANTINED tags; QUEUE_HIGH the occupancy;
APERTURE_END the lowest-numbered window whose cursor is EXHAUSTED and the number of such cursors;
DRAIN the code DRAINED alone, or STUCK with the oldest entry of a masked requester. Tables 10-9 and
10-13: the bytes of a detail. -/
def Obligations.EventTakeSelects : Prop :=
  ∀ s : State, s.inCommand →
    let none' (full : Byte) : List Byte :=
      [0x01, 0x0F, 0, 0, full, 0xFF, 0, 0, 0, 0, 0xFF, 0xFF, 0xFF]
    let number (n : Nat) : Detail :=
      { requester := none, address := 0, window := none, cls := none, code := some (.number n) }
    let exhausted (w : Fin 16) : Bool :=
      match s.cursors[w] with
      | some c => c.exhausted
      | none => false
    let above (src : Source) : Prop :=
      (s.source src).pending = true ∧ s.events.floor < (s.source src).level
    (4 ≤ s.events.stack.length → exec .eventTake s = .next (s.replying (none' 1))) ∧
    (s.events.stack.length < 4 → (∀ src, ¬ above src) →
      exec .eventTake s = .next (s.replying (none' 0))) ∧
    (∀ src : Source, s.events.stack.length < 4 → above src →
      (∀ other, above other → (s.source other).level < (s.source src).level ∨
        ((s.source other).level = (s.source src).level ∧ src.vector ≤ other.vector)) →
      exec .eventTake s = .next
        (({ s with
          events :=
            { s.events with
              floor := (s.source src).level, stack := s.events.floor :: s.events.stack,
              sources :=
                if src.isLevel then s.events.sources
                else s.events.sources.set src.vector
                  { level := (s.source src).level, pending := false,
                    detail := Detail.empty, count := 0 } } } : State).judge.replying
          ([0x01, BitVec.ofNat 8 src.vector.val, BitVec.ofNat 8 (s.source src).level,
            BitVec.ofNat 8 (if src.isLevel then 0 else (s.source src).count), 0] ++
            (if src.isLevel then s.takeDetail src else (s.source src).detail).bytes))) ∧
    s.takeDetail .fault = number ((List.finRange 8).filter fun n =>
      decide (s.mem.tags[n] = .quarantined)).length ∧
    s.takeDetail .queueHigh = number s.queue.entries.length ∧
    (∀ w : Fin 16, exhausted w = true → (∀ v : Fin 16, v < w → exhausted v = false) →
      s.takeDetail .apertureEnd =
        { requester := none, address := s.windows[w].base, window := some (.window w),
          cls := some s.windows[w].cls,
          code := some (.number ((List.finRange 16).filter exhausted).length) }) ∧
    (s.drain.state = .drained → s.takeDetail .drain =
      { requester := none, address := 0, window := none, cls := none, code := some .drained }) ∧
    (∀ before e after, s.drain.state = .stuck → s.queue.entries = before ++ e :: after →
      inMask s.drain.mask e.requester = true →
      (∀ a ∈ before, inMask s.drain.mask a.requester = false) →
      s.takeDetail .drain =
        { requester := some e.requester, address := e.upAddress,
          window := match e.origin with
            | .window w => some (.window w)
            | .default => some .default
            | .monitor => none,
          cls := some e.cls, code := some .stuck }) ∧
    ∀ d : Detail, d.bytes =
      [(match d.requester with
          | some (.bus n) => BitVec.ofNat 8 n.val
          | some .monitor => 0x08
          | none => 0xFF),
        d.address.extractLsb' 24 8, d.address.extractLsb' 16 8, d.address.extractLsb' 8 8,
        d.address.extractLsb' 0 8,
        (match d.window with
          | some (.window w) => BitVec.ofNat 8 w.val
          | some .default => 0x10
          | none => 0xFF),
        (match d.cls with
          | some c => BitVec.ofNat 8 c.val
          | none => 0xFF),
        (match d.code with
          | none => 0xFF
          | some (.phase .read) => 0x00
          | some (.phase .write) => 0x01
          | some (.phase .fetch) => 0x02
          | some (.phase .writeBack) => 0x03
          | some .stray => 0x04
          | some .permit => 0x00
          | some .routeDeny => 0x01
          | some .split => 0x00
          | some .unsupported => 0x01
          | some .tagInUse => 0x02
          | some (.hold .order) => 0x00
          | some (.hold .hazard) => 0x01
          | some (.hold .level) => 0x02
          | some (.hold .credit) => 0x03
          | some (.hold .slot) => 0x04
          | some (.hold .port) => 0x05
          | some .plain => 0x00
          | some .bit => 0x01
          | some .drained => 0x00
          | some .stuck => 0x01
          | some (.number n) => BitVec.ofNat 8 n
          | some (.outcome .ok) => 0x00
          | some (.outcome .holdTimeout) => 0x06
          | some (.outcome .memError) => 0x08
          | some (.outcome .memTimeout) => 0x09)]

/-- R147: EVENT-CLEAR empties every edge source whose flag is set and that is pending, and no other source;
levels, the floor and the stack stay, and IRQN is judged again. R134: an occurrence makes an edge
source pending with its detail and count 1, or raises the count of a pending one, up to 15, keeping
its detail. R135, R139 (R44, R80, R116, R156): the judgement at the end of an event sets the pending field of
each level source to its condition, sets IRQN when some pending source is above the floor, and
changes nothing else. -/
def Obligations.EventClearAndOccurrences : Prop :=
  (∀ (s : State) (mask : Half), s.inCommand → ∃ u : State,
    exec (.eventClear mask) s = .next (u.judge.replying [0x01]) ∧
    u = { s with events := { s.events with sources := u.events.sources } } ∧
    ∀ src : Source,
      (src.isLevel = false → mask.getLsbD src.vector.val = true → (s.source src).pending = true →
        u.source src =
          { level := (s.source src).level, pending := false, detail := Detail.empty,
            count := 0 }) ∧
      (src.isLevel = true ∨ mask.getLsbD src.vector.val = false ∨ (s.source src).pending = false →
        u.source src = s.source src)) ∧
  (∀ (s : State) (src : Source) (d : Detail),
    ((s.source src).pending = false → (s.report src d).source src =
      { level := (s.source src).level, pending := true, detail := d, count := 1 }) ∧
    ((s.source src).pending = true → (s.report src d).source src =
      { s.source src with count := min 15 ((s.source src).count + 1) }) ∧
    (∀ other, other ≠ src → (s.report src d).source other = s.source other) ∧
    s.report src d = { s with events := { s.events with sources := (s.report src d).events.sources } }) ∧
  (∀ s : State,
    s.judge =
      { s with
        events :=
          { s.events with sources := s.judge.events.sources, irqn := s.judge.events.irqn } } ∧
    (∀ src : Source,
      s.judge.source src = { s.source src with pending := (s.judge.source src).pending } ∧
      (src.isLevel = false → s.judge.source src = s.source src)) ∧
    ((s.judge.source .fault).pending = true ↔ s.mem.port = .stalled) ∧
    ((s.judge.source .apertureEnd).pending = true ↔
      ∃ (w : Fin 16) (c : Cursor), s.cursors[w] = some c ∧ c.exhausted = true) ∧
    ((s.judge.source .drain).pending = true ↔ s.drain.state = .drained ∨ s.drain.state = .stuck) ∧
    ((s.judge.source .queueHigh).pending = true ↔
      s.settings.threshold ≤ s.queue.entries.length) ∧
    (s.judge.events.irqn = true ↔ ∃ src : Source, (s.judge.source src).pending = true ∧
      s.events.floor < (s.source src).level))

/-! ## Drain control -/

/-- R151, R176: DRAIN with an empty mask is answered RANGE in every drain state; otherwise, outside NONE,
BUSY; otherwise the mask and the limit are taken, and the drain is DRAINED when no entry of a masked
requester is in the queue, else DRAINING with its timer at 0; the reply is the new state. -/
def Obligations.DrainStarts : Prop :=
  ∀ (s : State) (mask : Byte), s.inCommand →
    (mask = 0 → exec (.drain mask) s = .next (s.replying [0x03])) ∧
    (mask ≠ 0 → s.drain.state ≠ .none → exec (.drain mask) s = .next (s.replying [0x02])) ∧
    (mask ≠ 0 → s.drain.state = .none →
      (∃ e ∈ s.queue.entries, inMask mask e.requester = true) →
      exec (.drain mask) s = .next
        (({ s with
          drain :=
            { state := .draining, mask := mask, limit := s.settings.drainLimit, timer := 0 } } :
          State).judge.replying [0x01, 0x01])) ∧
    (mask ≠ 0 → s.drain.state = .none →
      (∀ e ∈ s.queue.entries, inMask mask e.requester = false) →
      exec (.drain mask) s = .next
        (({ s with
          drain :=
            { s.drain with
              state := .drained, mask := mask, limit := s.settings.drainLimit } } :
          State).judge.replying [0x01, 0x02]))

/-- R155, R176: RESUME outside NONE makes the drain NONE with an empty mask and replies the state found; in
NONE it is answered RANGE. R154: when the drain timer has reached the drain's limit in DRAINING, the
drain is STUCK and nothing else changes; in any other drain state no expiry takes place. -/
def Obligations.ResumeAndDrainExpiry : Prop :=
  ∀ s : State,
    (s.inCommand → s.drain.state = .none → exec .resume s = .next (s.replying [0x03])) ∧
    (s.inCommand → s.drain.state ≠ .none → exec .resume s = .next
      (({ s with drain := { s.drain with state := .none, mask := 0 } } : State).judge.replying
        [0x01,
         match s.drain.state with
         | .none => 0x00
         | .draining => 0x01
         | .drained => 0x02
         | .stuck => 0x03])) ∧
    (s.drain.state = .draining → 1000 * s.drain.limit ≤ s.drain.timer →
      exec .drainTimerExpiry s =
        .next ({ s with drain := { s.drain with state := .stuck } } : State).judge) ∧
    (s.drain.state ≠ .draining → exec .drainTimerExpiry s = .next s)

/-! ## The service port -/

/-- R163 to R165, R168, Table 10-2: SSN falling starts a frame in COMMAND, except while RESETN is asserted;
SSN rising in COMMAND, REPLY or TRAIL ends it, with the reply bytes not yet sent lost; SSN rising in a
frame that a reset abandoned ends it whichever row names the edge (log 9); the end of the reply makes
the state TRAIL. An edge or an end that the frame state does not allow changes nothing (log 9). SDO is
released in IDLE, and carries 00h in COMMAND, the next reply byte in REPLY and FFh in TRAIL. -/
def Obligations.FramesOfTheServicePort : Prop :=
  ∀ (s : State) (sent : Nat),
    let ended (shifted : List Byte) : Result := .next
      { s with
        service :=
          { s.service with
            ssnLow := false, frame := .idle, bits := [], stored := [], reply := [],
            shifted := shifted } }
    (s.service.ssnLow = false → exec .frameStart s = .next
      { s with
        service :=
          { s.service with
            ssnLow := true, bits := [], stored := [],
            frame := if s.resetAsserted then .idle else .command } }) ∧
    (s.service.ssnLow = true → exec .frameStart s = .next s) ∧
    (s.service.ssnLow = true → s.service.frame = .command →
      exec .frameDiscard s = ended s.service.shifted) ∧
    (s.service.ssnLow = true → s.service.frame = .reply →
      exec (.replyLost sent) s = ended (s.service.shifted ++ s.service.reply.take sent)) ∧
    (s.service.ssnLow = true → s.service.frame = .trail →
      exec .frameEnd s = ended s.service.shifted) ∧
    (s.service.frame = .reply → exec .endOfReply s = .next
      { s with
        service :=
          { s.service with
            frame := .trail, bits := [], reply := [],
            shifted := s.service.shifted ++ s.service.reply } }) ∧
    (s.service.ssnLow = true → s.service.frame = .idle →
      exec .frameDiscard s = ended s.service.shifted ∧
        exec (.replyLost sent) s = ended (s.service.shifted ++ s.service.reply.take sent) ∧
        exec .frameEnd s = ended s.service.shifted) ∧
    (s.service.ssnLow = false ∨ (s.service.frame ≠ .command ∧ s.service.frame ≠ .idle) →
      exec .frameDiscard s = .next s) ∧
    (s.service.ssnLow = false ∨ (s.service.frame ≠ .reply ∧ s.service.frame ≠ .idle) →
      exec (.replyLost sent) s = .next s) ∧
    (s.service.ssnLow = false ∨ (s.service.frame ≠ .trail ∧ s.service.frame ≠ .idle) →
      exec .frameEnd s = .next s) ∧
    (s.service.frame ≠ .reply → exec .endOfReply s = .next s) ∧
    (s.service.frame = .idle → s.sdo = none) ∧
    (s.service.frame = .command → s.sdo = some 0x00) ∧
    (s.service.frame = .reply → ∀ b rest, s.service.reply = b :: rest → s.sdo = some b) ∧
    (s.service.frame = .trail → s.sdo = some 0xFF)

/-- R166: a code byte that names none of the twenty-four commands, 00h and FFh among these, is taken at its
own arrival whatever follows it, is answered UNKNOWN alone, after which the state is TRAIL, and
changes no state of the part. -/
def Obligations.UnknownCommandsAreAnswered : Prop :=
  ∀ (s : State) (code : Byte),
    ((∀ c : ServiceCode, c.byte ≠ code) → s.inCommand →
      exec (.unknownCommand code) s = .next (s.replying [0x04])) ∧
    (code = 0x00 ∨ code = 0xFF → ∀ c : ServiceCode, c.byte ≠ code) ∧
    (∀ more : List Byte, (∀ c : ServiceCode, c.byte ≠ code) →
      decodeFrame (code :: more) = some (.unknownCommand code)) ∧
    exec .endOfReply (s.replying [0x04]) = .next
      { s with
        service :=
          { s.service with
            frame := .trail, bits := [], reply := [],
            shifted := s.service.shifted ++ [0x04] } }

/-- R12, R46, R60, R105, R148, R169 to R171, R173, R174, with the layouts of Tables 10-6, 10-7, 10-8, 10-10
and 10-11: the six commands that only read. Each changes nothing but the frame state and the reply. -/
def Obligations.InspectionCommandsReply : Prop :=
  ∀ s : State, s.inCommand →
    let num (n : Nat) : Byte := BitVec.ofNat 8 n
    let two (x : Half) : List Byte := [x.extractLsb' 8 8, x.extractLsb' 0 8]
    let four (x : Word) : List Byte :=
      [x.extractLsb' 24 8, x.extractLsb' 16 8, x.extractLsb' 8 8, x.extractLsb' 0 8]
    let tags (p : TagRecord → Bool) : Nat :=
      ((List.finRange 8).filter fun n => p s.mem.tags[n]).length
    let pendingSet : Half := BitVec.ofNat 16
      ((Source.all.filter fun src => (s.source src).pending).map
        (fun src => 2 ^ src.vector.val)).sum
    exec .status s = .next (s.replying
      ([0x01, num s.queue.entries.length,
        num (tags fun r => match r with
          | .free => true
          | _ => false),
        num (tags fun r => match r with
          | .busy _ _ _ => true
          | _ => false),
        num (tags fun r => match r with
          | .quarantined => true
          | _ => false),
        (match s.mem.port with
          | .running => 0x00
          | .stalled => 0x01
          | .recovering => 0x02),
        num s.slots.length,
        (match s.drain.state with
          | .none => 0x00
          | .draining => 0x01
          | .drained => 0x02
          | .stuck => 0x03),
        s.drain.mask,
        (match s.service.monitor.state with
          | .idle => 0x00
          | .busy => 0x01
          | .done => 0x02),
        num s.events.floor, num s.events.stack.length] ++ two pendingSet)) ∧
    exec .eventPeek s = .next (s.replying
      ([0x01] ++ two pendingSet ++ [num s.events.floor, num s.events.stack.length])) ∧
    exec .settingsRead s = .next (s.replying
      ([0x01] ++ two (BitVec.ofNat 16 s.settings.interval) ++
        two (BitVec.ofNat 16 s.settings.holdLimit) ++
        two (BitVec.ofNat 16 s.settings.responseLimit) ++
        [num s.settings.drainLimit, num s.settings.threshold, num s.settings.monitorClass.val,
         num s.settings.defaultClass.val, if s.settings.deny then 1 else 0])) ∧
    (∀ number : Byte, 7 < number.toNat → exec (.classRead number) s =
      .next (s.replying [0x03])) ∧
    (∀ (number : Byte) (k : Fin 8), k.val = number.toNat →
      let c := s.classTable.classes[k]
      exec (.classRead number) s = .next (s.replying
        ([0x01, num c.level.val,
          (match c.mode with
            | .free => 0x00
            | .enforce => 0x01
            | .report => 0x02)] ++ two c.budget ++ two c.carry ++
          four (BitVec.ofInt 32 c.credit) ++ two (BitVec.ofNat 16 c.usedNow) ++
          two (BitVec.ofNat 16 c.usedLast) ++ [if c.overrun then 1 else 0]))) ∧
    (∀ index : Byte, 15 < index.toNat → exec (.windowRead index) s =
      .next (s.replying [0x03])) ∧
    (∀ (index : Byte) (k : Fin 16), k.val = index.toNat →
      let w := s.windows[k]
      exec (.windowRead index) s = .next (s.replying
        ([0x01, (if w.valid then 1 else 0) + (if w.watch then 2 else 0),
          (match w.kind with
            | .pass => 0x00
            | .ring => 0x01
            | .aperture => 0x02
            | .bitop => 0x03),
          num w.cls.val, w.readPermit, w.writePermit] ++ four w.base ++ four w.size ++
          four w.target ++ [num w.ringK] ++ two (BitVec.ofNat 16 w.ringN) ++
          [num w.ringH, num w.ringT, num w.ringS] ++ two (BitVec.ofNat 16 w.columns) ++
          four (BitVec.ofNat 32 w.rows) ++ four w.pitch ++
          [(match w.scan with
              | .rowMajor => 0x00
              | .columnMajor => 0x01),
            (match w.endPolicy with
              | .wrap => 0x00
              | .stop => 0x01)] ++
          (match s.cursors[k] with
            | some c => two (BitVec.ofNat 16 c.row) ++ two (BitVec.ofNat 16 c.column) ++
                [if c.exhausted then 1 else 0]
            | none => [0, 0, 0, 0, 0])))) ∧
    (∀ position : Byte, 24 ≤ position.toNat → exec (.queueRead position) s =
      .next (s.replying [0x03])) ∧
    (∀ position : Byte, position.toNat < 24 → s.queue.entries.length ≤ position.toNat →
      exec (.queueRead position) s = .next (s.replying (0x01 :: List.replicate 24 0))) ∧
    (∀ (position : Byte) (e : Entry), position.toNat < 24 →
      s.queue.entries[position.toNat]? = some e →
      let opBit : Option (BitOp × Fin 32) :=
        match e.kind with
        | .plainRead => none
        | .plainWrite _ _ => none
        | .bitRead op bit => some (op, bit)
        | .bitWrite op bit => some (op, bit)
      exec (.queueRead position) s = .next (s.replying
        ([0x01, 0x01,
          (match e.requester with
            | .bus n => num n.val
            | .monitor => 8),
          num e.tag.val,
          (match e.origin with
            | .window w => num w.val
            | .default => 0x10
            | .monitor => 0x11),
          (match e.kind with
            | .plainRead => 0x00
            | .plainWrite _ _ => 0x01
            | .bitRead _ _ => 0x02
            | .bitWrite _ _ => 0x03),
          (match e.state with
            | .waiting => 0x00
            | .issued => 0x01
            | .fetching => 0x02
            | .writingBack => 0x03),
          (if e.state = .waiting then
            (match s.holdReason e with
              | .order => 0x00
              | .hazard => 0x01
              | .level => 0x02
              | .credit => 0x03
              | .slot => 0x04
              | .port => 0x05)
           else 0xFF),
          (match e.dtag with
            | some d => num d.val
            | none => 0xFF),
          num e.cls.val, num e.length,
          (match opBit with
            | some (.test, _) => 0x00
            | some (.set, _) => 0x01
            | some (.clear, _) => 0x02
            | some (.change, _) => 0x03
            | none => 0xFF),
          (match opBit with
            | some (_, bit) => num bit.val
            | none => 0xFF)] ++ two e.stamp ++
          two (BitVec.ofNat 16 (if e.state = .waiting then min 65535 e.holdTimer else 0)) ++
          four e.upAddress ++ four e.physical)))

/-- R167, Table 10-12: a command taken in a frame is answered DONE with the number of reply bytes of the
table, or with BUSY or RANGE alone. -/
def Obligations.RepliesHaveTheTablesLength : Prop :=
  ∀ (c : ServiceCode) (args : List Byte) (i : Instr) (s : State),
    decodeArgs c args = some i → s.inCommand →
    args.length = c.argBytes ∧
    ∃ t, exec i s = .next t ∧ t.service.frame = .reply ∧
      ((∃ bytes, t.service.reply = 0x01 :: bytes ∧ bytes.length = c.replyBytes) ∨
        t.service.reply = [0x02] ∨ t.service.reply = [0x03])

/-- The model stops on two operands only, which cannot be presented (log 4): a request outside Table 2-1
and an unknown command whose code names a command. Every other command gives a next state, every
MEMORY_ANSWER among them, whatever its tag, outcome and words, and no command is refused. A frame's
command outside a frame in COMMAND of which nothing has arrived changes nothing (R163; log 9). -/
def Obligations.WellFormedCommandsComplete : Prop :=
  ∀ (i : Instr) (s : State),
    (∀ r, exec i s ≠ .refused r) ∧
    (i.wellFormed = true → ∃ t, exec i s = .next t) ∧
    (∀ n outcome data, ∃ t, exec (.memoryAnswer n outcome data) s = .next t) ∧
    (i.wellFormed = true → encodeFrame i ≠ none → ¬ s.inCommand → exec i s = .next s) ∧
    (∀ r : Request, r.wf = false → exec (.requestTake (some r)) s = .fault .malformedRequest) ∧
    (∀ c : ServiceCode, exec (.unknownCommand c.byte) s = .fault .codeNamesCommand)

/-! ## Laws that every step keeps -/

/-- The state right after reset satisfies every law that `Obligations.TablesKept` to
`Obligations.ResetHeldKept` say the steps keep. -/
def Obligations.LawsHoldAtReset : Prop :=
  State.reset.TablesLegal ∧ State.reset.settings.Legal ∧ State.reset.QueueLegal ∧
    State.reset.EntriesPlaced ∧
    State.reset.ClassesLegal ∧ State.reset.PortLegal ∧ State.reset.OrderLegal ∧
    State.reset.EventsLegal ∧ State.reset.EventsJudged ∧ State.reset.DrainLegal ∧
    State.reset.TimersLegal ∧ State.reset.ResetHeld ∧ State.reset.MrstnLegal

/-- R2, R6 to R10, R103, R112, R122, Table 10-4: the window records are such as WINDOW-WRITE accepts, a ring's
start lies below N − H − T, a cursor exists exactly for a valid APERTURE window and lies inside its
region, and every setting is in its range. With such records every entry's words are aligned and lie
in the 4 GiB physical space (R7 to R10, R14, R15, R125). -/
def Obligations.TablesKept : Prop :=
  (∀ s t : State, s.TablesLegal → s.settings.Legal → step s = .next t →
    t.TablesLegal ∧ t.settings.Legal) ∧
  (∀ s t : State, s.TablesLegal → s.QueueLegal → s.EntriesPlaced → step s = .next t →
    t.EntriesPlaced)

/-- R24, R25, R40, R177: the queue never holds more than twenty-four entries; no two carry the same
requester and tag; a pair is BUSY exactly while an entry carries it; the monitor result record is
BUSY exactly while the monitor entry is in the queue. -/
def Obligations.QueueKept : Prop :=
  ∀ s t : State, s.QueueLegal → step s = .next t → t.QueueLegal

/-- R57, Table 3-1: every class's credit lies between −7 and its budget plus carry limit, and its two usage
counts are at most 65535. -/
def Obligations.ClassesKept : Prop :=
  ∀ s t : State, s.QueueLegal → s.ClassesLegal → step s = .next t → t.ClassesLegal

/-- R66, R67, R73, R79, R89: entries, downstream tags, waiting write-backs, slots and the port state fit
together; at most two entries hold slots, each with exactly one tag; the port is not RUNNING when all
eight tags are QUARANTINED. -/
def Obligations.PortKept : Prop :=
  ∀ s t : State, s.QueueLegal → s.PortLegal → step s = .next t → t.PortLegal

/-- R32, R33: entries of one requester are granted in admission order, and of two entries that share a
physical word the younger is WAITING while the older is in the queue. -/
def Obligations.OrderKept : Prop :=
  ∀ s t : State, s.QueueLegal → s.PortLegal → s.OrderLegal → step s = .next t → t.OrderLegal

/-- R132 to R135, R137 to R140: the floor lies between 0 and 8, the stack holds at most four values of 0 to
7, FAULT's level is 8 and the others' at most 7, an idle source is empty; and the level sources and
IRQN are as their conditions say. -/
def Obligations.EventsKept : Prop :=
  (∀ s t : State, s.EventsLegal → step s = .next t → t.EventsLegal) ∧
  (∀ s t : State, s.EventsJudged → step s = .next t → t.EventsJudged)

/-- R27, R150, R153: the mask is empty exactly in NONE; in DRAINED no masked requester has an entry, and in
DRAINING and STUCK one has. -/
def Obligations.DrainKept : Prop :=
  ∀ s t : State, s.DrainLegal → step s = .next t → t.DrainLegal

/-- The model's time base (log 2): no timer that leads to an event runs past its limit. -/
def Obligations.TimersKept : Prop :=
  ∀ s t : State, s.TimersLegal → step s = .next t → t.TimersLegal

/-- R3, R45, R48, R81 to R83, R149, R150, R168, R177: while RESETN is asserted every block stays in its reset
state; MRSTN is asserted exactly while the port recovers or RESETN is asserted. -/
def Obligations.ResetHeldKept : Prop :=
  ∀ s t : State, s.ResetHeld → s.MrstnLegal → step s = .next t → t.ResetHeld ∧ t.MrstnLegal

/-- R163, R164, R166, R181, Tables 10-2, 10-5, 10-6, 10-8 and 10-12: the bytes of every command's frame,
whatever follows them, are read back as that command with every operand at every value. Clocked in on
SDI, each byte's most significant bit first, they take exactly that command at their last bit, and
SSN rising before that discards the frame. In REPLY each slot of eight edges shifts out one reply
byte, its most significant bit first, and the slot of the last one is the end of the reply; in TRAIL a
slot is ignored; with SSN high or in IDLE every edge is. -/
def Obligations.FramesDecodeAsEncoded : Prop :=
  let msb (b : Byte) : List Bool :=
    [b.getLsbD 7, b.getLsbD 6, b.getLsbD 5, b.getLsbD 4, b.getLsbD 3, b.getLsbD 2, b.getLsbD 1,
     b.getLsbD 0]
  (∀ (i : Instr) (bytes more : List Byte), i.wellFormed = true → encodeFrame i = some bytes →
    decodeFrame (bytes ++ more) = some i) ∧
  (∀ (i : Instr) (bytes : List Byte) (s : State), i.wellFormed = true →
    encodeFrame i = some bytes → s.inCommand → s.service.ssnLow = true →
    s.clockBits (bytes.flatMap msb) = exec i s ∧
    ∀ k < 8 * bytes.length, ∃ t, s.clockBits ((bytes.flatMap msb).take k) = .next t ∧
      exec .frameDiscard t = exec .frameDiscard s) ∧
  (∀ (s : State) (slot : List Bool) (b : Byte) (rest : List Byte), slot.length = 8 →
    s.service.ssnLow = true → s.service.frame = .reply → s.service.bits = [] →
    s.service.reply = b :: rest →
    (∀ k < 8, ∃ t, s.clockBits (slot.take k) = .next t ∧
      t.sdoBit = some (b.getLsbD (7 - k)) ∧
      t = { s with service := { s.service with bits := slot.take k } }) ∧
    (rest ≠ [] → s.clockBits slot = .next
      { s with
        service := { s.service with reply := rest, shifted := s.service.shifted ++ [b] } }) ∧
    (rest = [] → s.clockBits slot = exec .endOfReply s)) ∧
  (∀ (s : State) (slot : List Bool), slot.length = 8 → s.service.ssnLow = true →
    s.service.frame = .trail → s.service.bits = [] → s.clockBits slot = .next s) ∧
  (∀ (s : State) (bit : Bool), s.service.ssnLow = false ∨ s.service.frame = .idle →
    s.clockBit bit = .next s)
end

