-- ==== Sys2Proof/Laws/State.lean ====
section
/-! SUPPORT. What each update of State writes, field by field: every lemma is true by rfl. -/

namespace Sys2Proof.Machine

open Sys2Proof

/-! ### State.setWindow -/

@[simp] theorem State.setWindow_pending (w : Fin 16) (r : WindowRecord) (s : State) :
    (s.setWindow w r).pending = s.pending := rfl

@[simp] theorem State.setWindow_freeCount (w : Fin 16) (r : WindowRecord) (s : State) :
    (s.setWindow w r).freeCount = s.freeCount := rfl

@[simp] theorem State.setWindow_resetAsserted (w : Fin 16) (r : WindowRecord) (s : State) :
    (s.setWindow w r).resetAsserted = s.resetAsserted := rfl

@[simp] theorem State.setWindow_upstream (w : Fin 16) (r : WindowRecord) (s : State) :
    (s.setWindow w r).upstream = s.upstream := rfl

@[simp] theorem State.setWindow_windows (w : Fin 16) (r : WindowRecord) (s : State) :
    (s.setWindow w r).windows = s.windows.set w r := rfl

@[simp] theorem State.setWindow_cursors (w : Fin 16) (r : WindowRecord) (s : State) :
    (s.setWindow w r).cursors = s.cursors := rfl

@[simp] theorem State.setWindow_settings (w : Fin 16) (r : WindowRecord) (s : State) :
    (s.setWindow w r).settings = s.settings := rfl

@[simp] theorem State.setWindow_queue (w : Fin 16) (r : WindowRecord) (s : State) :
    (s.setWindow w r).queue = s.queue := rfl

@[simp] theorem State.setWindow_classTable (w : Fin 16) (r : WindowRecord) (s : State) :
    (s.setWindow w r).classTable = s.classTable := rfl

@[simp] theorem State.setWindow_mem (w : Fin 16) (r : WindowRecord) (s : State) :
    (s.setWindow w r).mem = s.mem := rfl

@[simp] theorem State.setWindow_slots (w : Fin 16) (r : WindowRecord) (s : State) :
    (s.setWindow w r).slots = s.slots := rfl

@[simp] theorem State.setWindow_events (w : Fin 16) (r : WindowRecord) (s : State) :
    (s.setWindow w r).events = s.events := rfl

@[simp] theorem State.setWindow_drain (w : Fin 16) (r : WindowRecord) (s : State) :
    (s.setWindow w r).drain = s.drain := rfl

@[simp] theorem State.setWindow_service (w : Fin 16) (r : WindowRecord) (s : State) :
    (s.setWindow w r).service = s.service := rfl

/-! ### State.setCursor -/

@[simp] theorem State.setCursor_pending (w : Fin 16) (c : Option Cursor) (s : State) :
    (s.setCursor w c).pending = s.pending := rfl

@[simp] theorem State.setCursor_freeCount (w : Fin 16) (c : Option Cursor) (s : State) :
    (s.setCursor w c).freeCount = s.freeCount := rfl

@[simp] theorem State.setCursor_resetAsserted (w : Fin 16) (c : Option Cursor) (s : State) :
    (s.setCursor w c).resetAsserted = s.resetAsserted := rfl

@[simp] theorem State.setCursor_upstream (w : Fin 16) (c : Option Cursor) (s : State) :
    (s.setCursor w c).upstream = s.upstream := rfl

@[simp] theorem State.setCursor_windows (w : Fin 16) (c : Option Cursor) (s : State) :
    (s.setCursor w c).windows = s.windows := rfl

@[simp] theorem State.setCursor_cursors (w : Fin 16) (c : Option Cursor) (s : State) :
    (s.setCursor w c).cursors = s.cursors.set w c := rfl

@[simp] theorem State.setCursor_settings (w : Fin 16) (c : Option Cursor) (s : State) :
    (s.setCursor w c).settings = s.settings := rfl

@[simp] theorem State.setCursor_queue (w : Fin 16) (c : Option Cursor) (s : State) :
    (s.setCursor w c).queue = s.queue := rfl

@[simp] theorem State.setCursor_classTable (w : Fin 16) (c : Option Cursor) (s : State) :
    (s.setCursor w c).classTable = s.classTable := rfl

@[simp] theorem State.setCursor_mem (w : Fin 16) (c : Option Cursor) (s : State) :
    (s.setCursor w c).mem = s.mem := rfl

@[simp] theorem State.setCursor_slots (w : Fin 16) (c : Option Cursor) (s : State) :
    (s.setCursor w c).slots = s.slots := rfl

@[simp] theorem State.setCursor_events (w : Fin 16) (c : Option Cursor) (s : State) :
    (s.setCursor w c).events = s.events := rfl

@[simp] theorem State.setCursor_drain (w : Fin 16) (c : Option Cursor) (s : State) :
    (s.setCursor w c).drain = s.drain := rfl

@[simp] theorem State.setCursor_service (w : Fin 16) (c : Option Cursor) (s : State) :
    (s.setCursor w c).service = s.service := rfl

/-! ### State.setClass -/

@[simp] theorem State.setClass_pending (k : Fin 8) (c : ClassRecord) (s : State) :
    (s.setClass k c).pending = s.pending := rfl

@[simp] theorem State.setClass_freeCount (k : Fin 8) (c : ClassRecord) (s : State) :
    (s.setClass k c).freeCount = s.freeCount := rfl

@[simp] theorem State.setClass_resetAsserted (k : Fin 8) (c : ClassRecord) (s : State) :
    (s.setClass k c).resetAsserted = s.resetAsserted := rfl

@[simp] theorem State.setClass_upstream (k : Fin 8) (c : ClassRecord) (s : State) :
    (s.setClass k c).upstream = s.upstream := rfl

@[simp] theorem State.setClass_windows (k : Fin 8) (c : ClassRecord) (s : State) :
    (s.setClass k c).windows = s.windows := rfl

@[simp] theorem State.setClass_cursors (k : Fin 8) (c : ClassRecord) (s : State) :
    (s.setClass k c).cursors = s.cursors := rfl

@[simp] theorem State.setClass_settings (k : Fin 8) (c : ClassRecord) (s : State) :
    (s.setClass k c).settings = s.settings := rfl

@[simp] theorem State.setClass_queue (k : Fin 8) (c : ClassRecord) (s : State) :
    (s.setClass k c).queue = s.queue := rfl

@[simp] theorem State.setClass_classTable_classes (k : Fin 8) (c : ClassRecord) (s : State) :
    (s.setClass k c).classTable.classes = s.classTable.classes.set k c := rfl

@[simp] theorem State.setClass_classTable_length (k : Fin 8) (c : ClassRecord) (s : State) :
    (s.setClass k c).classTable.length = s.classTable.length := rfl

@[simp] theorem State.setClass_classTable_timer (k : Fin 8) (c : ClassRecord) (s : State) :
    (s.setClass k c).classTable.timer = s.classTable.timer := rfl

@[simp] theorem State.setClass_mem (k : Fin 8) (c : ClassRecord) (s : State) :
    (s.setClass k c).mem = s.mem := rfl

@[simp] theorem State.setClass_slots (k : Fin 8) (c : ClassRecord) (s : State) :
    (s.setClass k c).slots = s.slots := rfl

@[simp] theorem State.setClass_events (k : Fin 8) (c : ClassRecord) (s : State) :
    (s.setClass k c).events = s.events := rfl

@[simp] theorem State.setClass_drain (k : Fin 8) (c : ClassRecord) (s : State) :
    (s.setClass k c).drain = s.drain := rfl

@[simp] theorem State.setClass_service (k : Fin 8) (c : ClassRecord) (s : State) :
    (s.setClass k c).service = s.service := rfl

/-! ### State.setTag -/

@[simp] theorem State.setTag_pending (n : Fin 8) (r : TagRecord) (s : State) :
    (s.setTag n r).pending = s.pending := rfl

@[simp] theorem State.setTag_freeCount (n : Fin 8) (r : TagRecord) (s : State) :
    (s.setTag n r).freeCount = s.freeCount := rfl

@[simp] theorem State.setTag_resetAsserted (n : Fin 8) (r : TagRecord) (s : State) :
    (s.setTag n r).resetAsserted = s.resetAsserted := rfl

@[simp] theorem State.setTag_upstream (n : Fin 8) (r : TagRecord) (s : State) :
    (s.setTag n r).upstream = s.upstream := rfl

@[simp] theorem State.setTag_windows (n : Fin 8) (r : TagRecord) (s : State) :
    (s.setTag n r).windows = s.windows := rfl

@[simp] theorem State.setTag_cursors (n : Fin 8) (r : TagRecord) (s : State) :
    (s.setTag n r).cursors = s.cursors := rfl

@[simp] theorem State.setTag_settings (n : Fin 8) (r : TagRecord) (s : State) :
    (s.setTag n r).settings = s.settings := rfl

@[simp] theorem State.setTag_queue (n : Fin 8) (r : TagRecord) (s : State) :
    (s.setTag n r).queue = s.queue := rfl

@[simp] theorem State.setTag_classTable (n : Fin 8) (r : TagRecord) (s : State) :
    (s.setTag n r).classTable = s.classTable := rfl

@[simp] theorem State.setTag_mem_port (n : Fin 8) (r : TagRecord) (s : State) :
    (s.setTag n r).mem.port = s.mem.port := rfl

@[simp] theorem State.setTag_mem_tags (n : Fin 8) (r : TagRecord) (s : State) :
    (s.setTag n r).mem.tags = s.mem.tags.set n r := rfl

@[simp] theorem State.setTag_mem_writeBacks (n : Fin 8) (r : TagRecord) (s : State) :
    (s.setTag n r).mem.writeBacks = s.mem.writeBacks := rfl

@[simp] theorem State.setTag_mem_recoveryTimer (n : Fin 8) (r : TagRecord) (s : State) :
    (s.setTag n r).mem.recoveryTimer = s.mem.recoveryTimer := rfl

@[simp] theorem State.setTag_mem_mrstn (n : Fin 8) (r : TagRecord) (s : State) :
    (s.setTag n r).mem.mrstn = s.mem.mrstn := rfl

@[simp] theorem State.setTag_mem_ready (n : Fin 8) (r : TagRecord) (s : State) :
    (s.setTag n r).mem.ready = s.mem.ready := rfl

@[simp] theorem State.setTag_mem_requests (n : Fin 8) (r : TagRecord) (s : State) :
    (s.setTag n r).mem.requests = s.mem.requests := rfl

@[simp] theorem State.setTag_slots (n : Fin 8) (r : TagRecord) (s : State) :
    (s.setTag n r).slots = s.slots := rfl

@[simp] theorem State.setTag_events (n : Fin 8) (r : TagRecord) (s : State) :
    (s.setTag n r).events = s.events := rfl

@[simp] theorem State.setTag_drain (n : Fin 8) (r : TagRecord) (s : State) :
    (s.setTag n r).drain = s.drain := rfl

@[simp] theorem State.setTag_service (n : Fin 8) (r : TagRecord) (s : State) :
    (s.setTag n r).service = s.service := rfl

/-! ### State.issue -/

@[simp] theorem State.issue_pending (q : MemRequest) (s : State) :
    (s.issue q).pending = s.pending := rfl

@[simp] theorem State.issue_freeCount (q : MemRequest) (s : State) :
    (s.issue q).freeCount = s.freeCount := rfl

@[simp] theorem State.issue_resetAsserted (q : MemRequest) (s : State) :
    (s.issue q).resetAsserted = s.resetAsserted := rfl

@[simp] theorem State.issue_upstream (q : MemRequest) (s : State) :
    (s.issue q).upstream = s.upstream := rfl

@[simp] theorem State.issue_windows (q : MemRequest) (s : State) :
    (s.issue q).windows = s.windows := rfl

@[simp] theorem State.issue_cursors (q : MemRequest) (s : State) :
    (s.issue q).cursors = s.cursors := rfl

@[simp] theorem State.issue_settings (q : MemRequest) (s : State) :
    (s.issue q).settings = s.settings := rfl

@[simp] theorem State.issue_queue (q : MemRequest) (s : State) :
    (s.issue q).queue = s.queue := rfl

@[simp] theorem State.issue_classTable (q : MemRequest) (s : State) :
    (s.issue q).classTable = s.classTable := rfl

@[simp] theorem State.issue_mem_port (q : MemRequest) (s : State) :
    (s.issue q).mem.port = s.mem.port := rfl

@[simp] theorem State.issue_mem_tags (q : MemRequest) (s : State) :
    (s.issue q).mem.tags = s.mem.tags := rfl

@[simp] theorem State.issue_mem_writeBacks (q : MemRequest) (s : State) :
    (s.issue q).mem.writeBacks = s.mem.writeBacks := rfl

@[simp] theorem State.issue_mem_recoveryTimer (q : MemRequest) (s : State) :
    (s.issue q).mem.recoveryTimer = s.mem.recoveryTimer := rfl

@[simp] theorem State.issue_mem_mrstn (q : MemRequest) (s : State) :
    (s.issue q).mem.mrstn = s.mem.mrstn := rfl

@[simp] theorem State.issue_mem_ready (q : MemRequest) (s : State) :
    (s.issue q).mem.ready = s.mem.ready := rfl

@[simp] theorem State.issue_mem_requests (q : MemRequest) (s : State) :
    (s.issue q).mem.requests = s.mem.requests ++ [q] := rfl

@[simp] theorem State.issue_slots (q : MemRequest) (s : State) :
    (s.issue q).slots = s.slots := rfl

@[simp] theorem State.issue_events (q : MemRequest) (s : State) :
    (s.issue q).events = s.events := rfl

@[simp] theorem State.issue_drain (q : MemRequest) (s : State) :
    (s.issue q).drain = s.drain := rfl

@[simp] theorem State.issue_service (q : MemRequest) (s : State) :
    (s.issue q).service = s.service := rfl

/-! ### State.sampleReady -/

@[simp] theorem State.sampleReady_pending (b : Bool) (s : State) :
    (s.sampleReady b).pending = s.pending := rfl

@[simp] theorem State.sampleReady_freeCount (b : Bool) (s : State) :
    (s.sampleReady b).freeCount = s.freeCount := rfl

@[simp] theorem State.sampleReady_resetAsserted (b : Bool) (s : State) :
    (s.sampleReady b).resetAsserted = s.resetAsserted := rfl

@[simp] theorem State.sampleReady_upstream (b : Bool) (s : State) :
    (s.sampleReady b).upstream = s.upstream := rfl

@[simp] theorem State.sampleReady_windows (b : Bool) (s : State) :
    (s.sampleReady b).windows = s.windows := rfl

@[simp] theorem State.sampleReady_cursors (b : Bool) (s : State) :
    (s.sampleReady b).cursors = s.cursors := rfl

@[simp] theorem State.sampleReady_settings (b : Bool) (s : State) :
    (s.sampleReady b).settings = s.settings := rfl

@[simp] theorem State.sampleReady_queue (b : Bool) (s : State) :
    (s.sampleReady b).queue = s.queue := rfl

@[simp] theorem State.sampleReady_classTable (b : Bool) (s : State) :
    (s.sampleReady b).classTable = s.classTable := rfl

@[simp] theorem State.sampleReady_mem_port (b : Bool) (s : State) :
    (s.sampleReady b).mem.port = s.mem.port := rfl

@[simp] theorem State.sampleReady_mem_tags (b : Bool) (s : State) :
    (s.sampleReady b).mem.tags = s.mem.tags := rfl

@[simp] theorem State.sampleReady_mem_writeBacks (b : Bool) (s : State) :
    (s.sampleReady b).mem.writeBacks = s.mem.writeBacks := rfl

@[simp] theorem State.sampleReady_mem_recoveryTimer (b : Bool) (s : State) :
    (s.sampleReady b).mem.recoveryTimer = s.mem.recoveryTimer := rfl

@[simp] theorem State.sampleReady_mem_mrstn (b : Bool) (s : State) :
    (s.sampleReady b).mem.mrstn = s.mem.mrstn := rfl

@[simp] theorem State.sampleReady_mem_ready (b : Bool) (s : State) :
    (s.sampleReady b).mem.ready = b := rfl

@[simp] theorem State.sampleReady_mem_requests (b : Bool) (s : State) :
    (s.sampleReady b).mem.requests = s.mem.requests := rfl

@[simp] theorem State.sampleReady_slots (b : Bool) (s : State) :
    (s.sampleReady b).slots = s.slots := rfl

@[simp] theorem State.sampleReady_events (b : Bool) (s : State) :
    (s.sampleReady b).events = s.events := rfl

@[simp] theorem State.sampleReady_drain (b : Bool) (s : State) :
    (s.sampleReady b).drain = s.drain := rfl

@[simp] theorem State.sampleReady_service (b : Bool) (s : State) :
    (s.sampleReady b).service = s.service := rfl

/-! ### State.setTagBusy -/

@[simp] theorem State.setTagBusy_pending (r : Fin 8) (t : Fin 4) (b : Bool) (s : State) :
    (s.setTagBusy r t b).pending = s.pending := rfl

@[simp] theorem State.setTagBusy_freeCount (r : Fin 8) (t : Fin 4) (b : Bool) (s : State) :
    (s.setTagBusy r t b).freeCount = s.freeCount := rfl

@[simp] theorem State.setTagBusy_resetAsserted (r : Fin 8) (t : Fin 4) (b : Bool) (s : State) :
    (s.setTagBusy r t b).resetAsserted = s.resetAsserted := rfl

@[simp] theorem State.setTagBusy_upstream_offered (r : Fin 8) (t : Fin 4) (b : Bool) (s : State) :
    (s.setTagBusy r t b).upstream.offered = s.upstream.offered := rfl

@[simp] theorem State.setTagBusy_upstream_tagBusy (r : Fin 8) (t : Fin 4) (b : Bool) (s : State) :
    (s.setTagBusy r t b).upstream.tagBusy = s.upstream.tagBusy.set r (s.upstream.tagBusy[r].set t b) := rfl

@[simp] theorem State.setTagBusy_upstream_responses (r : Fin 8) (t : Fin 4) (b : Bool) (s : State) :
    (s.setTagBusy r t b).upstream.responses = s.upstream.responses := rfl

@[simp] theorem State.setTagBusy_windows (r : Fin 8) (t : Fin 4) (b : Bool) (s : State) :
    (s.setTagBusy r t b).windows = s.windows := rfl

@[simp] theorem State.setTagBusy_cursors (r : Fin 8) (t : Fin 4) (b : Bool) (s : State) :
    (s.setTagBusy r t b).cursors = s.cursors := rfl

@[simp] theorem State.setTagBusy_settings (r : Fin 8) (t : Fin 4) (b : Bool) (s : State) :
    (s.setTagBusy r t b).settings = s.settings := rfl

@[simp] theorem State.setTagBusy_queue (r : Fin 8) (t : Fin 4) (b : Bool) (s : State) :
    (s.setTagBusy r t b).queue = s.queue := rfl

@[simp] theorem State.setTagBusy_classTable (r : Fin 8) (t : Fin 4) (b : Bool) (s : State) :
    (s.setTagBusy r t b).classTable = s.classTable := rfl

@[simp] theorem State.setTagBusy_mem (r : Fin 8) (t : Fin 4) (b : Bool) (s : State) :
    (s.setTagBusy r t b).mem = s.mem := rfl

@[simp] theorem State.setTagBusy_slots (r : Fin 8) (t : Fin 4) (b : Bool) (s : State) :
    (s.setTagBusy r t b).slots = s.slots := rfl

@[simp] theorem State.setTagBusy_events (r : Fin 8) (t : Fin 4) (b : Bool) (s : State) :
    (s.setTagBusy r t b).events = s.events := rfl

@[simp] theorem State.setTagBusy_drain (r : Fin 8) (t : Fin 4) (b : Bool) (s : State) :
    (s.setTagBusy r t b).drain = s.drain := rfl

@[simp] theorem State.setTagBusy_service (r : Fin 8) (t : Fin 4) (b : Bool) (s : State) :
    (s.setTagBusy r t b).service = s.service := rfl

/-! ### State.respond -/

@[simp] theorem State.respond_pending (r : Response) (s : State) :
    (s.respond r).pending = s.pending := rfl

@[simp] theorem State.respond_freeCount (r : Response) (s : State) :
    (s.respond r).freeCount = s.freeCount := rfl

@[simp] theorem State.respond_resetAsserted (r : Response) (s : State) :
    (s.respond r).resetAsserted = s.resetAsserted := rfl

@[simp] theorem State.respond_upstream_offered (r : Response) (s : State) :
    (s.respond r).upstream.offered = s.upstream.offered := rfl

@[simp] theorem State.respond_upstream_tagBusy (r : Response) (s : State) :
    (s.respond r).upstream.tagBusy = s.upstream.tagBusy := rfl

@[simp] theorem State.respond_upstream_responses (r : Response) (s : State) :
    (s.respond r).upstream.responses = s.upstream.responses ++ [r] := rfl

@[simp] theorem State.respond_windows (r : Response) (s : State) :
    (s.respond r).windows = s.windows := rfl

@[simp] theorem State.respond_cursors (r : Response) (s : State) :
    (s.respond r).cursors = s.cursors := rfl

@[simp] theorem State.respond_settings (r : Response) (s : State) :
    (s.respond r).settings = s.settings := rfl

@[simp] theorem State.respond_queue (r : Response) (s : State) :
    (s.respond r).queue = s.queue := rfl

@[simp] theorem State.respond_classTable (r : Response) (s : State) :
    (s.respond r).classTable = s.classTable := rfl

@[simp] theorem State.respond_mem (r : Response) (s : State) :
    (s.respond r).mem = s.mem := rfl

@[simp] theorem State.respond_slots (r : Response) (s : State) :
    (s.respond r).slots = s.slots := rfl

@[simp] theorem State.respond_events (r : Response) (s : State) :
    (s.respond r).events = s.events := rfl

@[simp] theorem State.respond_drain (r : Response) (s : State) :
    (s.respond r).drain = s.drain := rfl

@[simp] theorem State.respond_service (r : Response) (s : State) :
    (s.respond r).service = s.service := rfl

/-! ### State.offer -/

@[simp] theorem State.offer_pending (o : Option Request) (s : State) :
    (s.offer o).pending = s.pending := rfl

@[simp] theorem State.offer_freeCount (o : Option Request) (s : State) :
    (s.offer o).freeCount = s.freeCount := rfl

@[simp] theorem State.offer_resetAsserted (o : Option Request) (s : State) :
    (s.offer o).resetAsserted = s.resetAsserted := rfl

@[simp] theorem State.offer_upstream_offered (o : Option Request) (s : State) :
    (s.offer o).upstream.offered = s.upstream.offered ++ o.toList := rfl

@[simp] theorem State.offer_upstream_tagBusy (o : Option Request) (s : State) :
    (s.offer o).upstream.tagBusy = s.upstream.tagBusy := rfl

@[simp] theorem State.offer_upstream_responses (o : Option Request) (s : State) :
    (s.offer o).upstream.responses = s.upstream.responses := rfl

@[simp] theorem State.offer_windows (o : Option Request) (s : State) :
    (s.offer o).windows = s.windows := rfl

@[simp] theorem State.offer_cursors (o : Option Request) (s : State) :
    (s.offer o).cursors = s.cursors := rfl

@[simp] theorem State.offer_settings (o : Option Request) (s : State) :
    (s.offer o).settings = s.settings := rfl

@[simp] theorem State.offer_queue (o : Option Request) (s : State) :
    (s.offer o).queue = s.queue := rfl

@[simp] theorem State.offer_classTable (o : Option Request) (s : State) :
    (s.offer o).classTable = s.classTable := rfl

@[simp] theorem State.offer_mem (o : Option Request) (s : State) :
    (s.offer o).mem = s.mem := rfl

@[simp] theorem State.offer_slots (o : Option Request) (s : State) :
    (s.offer o).slots = s.slots := rfl

@[simp] theorem State.offer_events (o : Option Request) (s : State) :
    (s.offer o).events = s.events := rfl

@[simp] theorem State.offer_drain (o : Option Request) (s : State) :
    (s.offer o).drain = s.drain := rfl

@[simp] theorem State.offer_service (o : Option Request) (s : State) :
    (s.offer o).service = s.service := rfl

/-! ### State.setSource -/

@[simp] theorem State.setSource_pending (src : Source) (r : SourceRecord) (s : State) :
    (s.setSource src r).pending = s.pending := rfl

@[simp] theorem State.setSource_freeCount (src : Source) (r : SourceRecord) (s : State) :
    (s.setSource src r).freeCount = s.freeCount := rfl

@[simp] theorem State.setSource_resetAsserted (src : Source) (r : SourceRecord) (s : State) :
    (s.setSource src r).resetAsserted = s.resetAsserted := rfl

@[simp] theorem State.setSource_upstream (src : Source) (r : SourceRecord) (s : State) :
    (s.setSource src r).upstream = s.upstream := rfl

@[simp] theorem State.setSource_windows (src : Source) (r : SourceRecord) (s : State) :
    (s.setSource src r).windows = s.windows := rfl

@[simp] theorem State.setSource_cursors (src : Source) (r : SourceRecord) (s : State) :
    (s.setSource src r).cursors = s.cursors := rfl

@[simp] theorem State.setSource_settings (src : Source) (r : SourceRecord) (s : State) :
    (s.setSource src r).settings = s.settings := rfl

@[simp] theorem State.setSource_queue (src : Source) (r : SourceRecord) (s : State) :
    (s.setSource src r).queue = s.queue := rfl

@[simp] theorem State.setSource_classTable (src : Source) (r : SourceRecord) (s : State) :
    (s.setSource src r).classTable = s.classTable := rfl

@[simp] theorem State.setSource_mem (src : Source) (r : SourceRecord) (s : State) :
    (s.setSource src r).mem = s.mem := rfl

@[simp] theorem State.setSource_slots (src : Source) (r : SourceRecord) (s : State) :
    (s.setSource src r).slots = s.slots := rfl

@[simp] theorem State.setSource_events_sources (src : Source) (r : SourceRecord) (s : State) :
    (s.setSource src r).events.sources = s.events.sources.set src.vector r := rfl

@[simp] theorem State.setSource_events_floor (src : Source) (r : SourceRecord) (s : State) :
    (s.setSource src r).events.floor = s.events.floor := rfl

@[simp] theorem State.setSource_events_stack (src : Source) (r : SourceRecord) (s : State) :
    (s.setSource src r).events.stack = s.events.stack := rfl

@[simp] theorem State.setSource_events_irqn (src : Source) (r : SourceRecord) (s : State) :
    (s.setSource src r).events.irqn = s.events.irqn := rfl

@[simp] theorem State.setSource_drain (src : Source) (r : SourceRecord) (s : State) :
    (s.setSource src r).drain = s.drain := rfl

@[simp] theorem State.setSource_service (src : Source) (r : SourceRecord) (s : State) :
    (s.setSource src r).service = s.service := rfl

/-! ### State.report -/

@[simp] theorem State.report_pending (src : Source) (d : Detail) (s : State) :
    (s.report src d).pending = s.pending := rfl

@[simp] theorem State.report_freeCount (src : Source) (d : Detail) (s : State) :
    (s.report src d).freeCount = s.freeCount := rfl

@[simp] theorem State.report_resetAsserted (src : Source) (d : Detail) (s : State) :
    (s.report src d).resetAsserted = s.resetAsserted := rfl

@[simp] theorem State.report_upstream (src : Source) (d : Detail) (s : State) :
    (s.report src d).upstream = s.upstream := rfl

@[simp] theorem State.report_windows (src : Source) (d : Detail) (s : State) :
    (s.report src d).windows = s.windows := rfl

@[simp] theorem State.report_cursors (src : Source) (d : Detail) (s : State) :
    (s.report src d).cursors = s.cursors := rfl

@[simp] theorem State.report_settings (src : Source) (d : Detail) (s : State) :
    (s.report src d).settings = s.settings := rfl

@[simp] theorem State.report_queue (src : Source) (d : Detail) (s : State) :
    (s.report src d).queue = s.queue := rfl

@[simp] theorem State.report_classTable (src : Source) (d : Detail) (s : State) :
    (s.report src d).classTable = s.classTable := rfl

@[simp] theorem State.report_mem (src : Source) (d : Detail) (s : State) :
    (s.report src d).mem = s.mem := rfl

@[simp] theorem State.report_slots (src : Source) (d : Detail) (s : State) :
    (s.report src d).slots = s.slots := rfl

@[simp] theorem State.report_events_sources (src : Source) (d : Detail) (s : State) :
    (s.report src d).events.sources = s.events.sources.set src.vector ((s.source src).record d) := rfl

@[simp] theorem State.report_events_floor (src : Source) (d : Detail) (s : State) :
    (s.report src d).events.floor = s.events.floor := rfl

@[simp] theorem State.report_events_stack (src : Source) (d : Detail) (s : State) :
    (s.report src d).events.stack = s.events.stack := rfl

@[simp] theorem State.report_events_irqn (src : Source) (d : Detail) (s : State) :
    (s.report src d).events.irqn = s.events.irqn := rfl

@[simp] theorem State.report_drain (src : Source) (d : Detail) (s : State) :
    (s.report src d).drain = s.drain := rfl

@[simp] theorem State.report_service (src : Source) (d : Detail) (s : State) :
    (s.report src d).service = s.service := rfl

/-! ### State.judgeSources -/

@[simp] theorem State.judgeSources_pending (s : State) :
    (s.judgeSources).pending = s.pending := rfl

@[simp] theorem State.judgeSources_freeCount (s : State) :
    (s.judgeSources).freeCount = s.freeCount := rfl

@[simp] theorem State.judgeSources_resetAsserted (s : State) :
    (s.judgeSources).resetAsserted = s.resetAsserted := rfl

@[simp] theorem State.judgeSources_upstream (s : State) :
    (s.judgeSources).upstream = s.upstream := rfl

@[simp] theorem State.judgeSources_windows (s : State) :
    (s.judgeSources).windows = s.windows := rfl

@[simp] theorem State.judgeSources_cursors (s : State) :
    (s.judgeSources).cursors = s.cursors := rfl

@[simp] theorem State.judgeSources_settings (s : State) :
    (s.judgeSources).settings = s.settings := rfl

@[simp] theorem State.judgeSources_queue (s : State) :
    (s.judgeSources).queue = s.queue := rfl

@[simp] theorem State.judgeSources_classTable (s : State) :
    (s.judgeSources).classTable = s.classTable := rfl

@[simp] theorem State.judgeSources_mem (s : State) :
    (s.judgeSources).mem = s.mem := rfl

@[simp] theorem State.judgeSources_slots (s : State) :
    (s.judgeSources).slots = s.slots := rfl

@[simp] theorem State.judgeSources_events_sources (s : State) :
    (s.judgeSources).events.sources = Vector.ofFn fun i =>
      { s.events.sources[i] with pending := s.judgedPending (Source.ofVector i) } := rfl

@[simp] theorem State.judgeSources_events_floor (s : State) :
    (s.judgeSources).events.floor = s.events.floor := rfl

@[simp] theorem State.judgeSources_events_stack (s : State) :
    (s.judgeSources).events.stack = s.events.stack := rfl

@[simp] theorem State.judgeSources_events_irqn (s : State) :
    (s.judgeSources).events.irqn = s.events.irqn := rfl

@[simp] theorem State.judgeSources_drain (s : State) :
    (s.judgeSources).drain = s.drain := rfl

@[simp] theorem State.judgeSources_service (s : State) :
    (s.judgeSources).service = s.service := rfl

/-! ### State.judgeIrqn -/

@[simp] theorem State.judgeIrqn_pending (s : State) :
    (s.judgeIrqn).pending = s.pending := rfl

@[simp] theorem State.judgeIrqn_freeCount (s : State) :
    (s.judgeIrqn).freeCount = s.freeCount := rfl

@[simp] theorem State.judgeIrqn_resetAsserted (s : State) :
    (s.judgeIrqn).resetAsserted = s.resetAsserted := rfl

@[simp] theorem State.judgeIrqn_upstream (s : State) :
    (s.judgeIrqn).upstream = s.upstream := rfl

@[simp] theorem State.judgeIrqn_windows (s : State) :
    (s.judgeIrqn).windows = s.windows := rfl

@[simp] theorem State.judgeIrqn_cursors (s : State) :
    (s.judgeIrqn).cursors = s.cursors := rfl

@[simp] theorem State.judgeIrqn_settings (s : State) :
    (s.judgeIrqn).settings = s.settings := rfl

@[simp] theorem State.judgeIrqn_queue (s : State) :
    (s.judgeIrqn).queue = s.queue := rfl

@[simp] theorem State.judgeIrqn_classTable (s : State) :
    (s.judgeIrqn).classTable = s.classTable := rfl

@[simp] theorem State.judgeIrqn_mem (s : State) :
    (s.judgeIrqn).mem = s.mem := rfl

@[simp] theorem State.judgeIrqn_slots (s : State) :
    (s.judgeIrqn).slots = s.slots := rfl

@[simp] theorem State.judgeIrqn_events_sources (s : State) :
    (s.judgeIrqn).events.sources = s.events.sources := rfl

@[simp] theorem State.judgeIrqn_events_floor (s : State) :
    (s.judgeIrqn).events.floor = s.events.floor := rfl

@[simp] theorem State.judgeIrqn_events_stack (s : State) :
    (s.judgeIrqn).events.stack = s.events.stack := rfl

@[simp] theorem State.judgeIrqn_events_irqn (s : State) :
    (s.judgeIrqn).events.irqn = s.irqnWanted := rfl

@[simp] theorem State.judgeIrqn_drain (s : State) :
    (s.judgeIrqn).drain = s.drain := rfl

@[simp] theorem State.judgeIrqn_service (s : State) :
    (s.judgeIrqn).service = s.service := rfl

/-! ### State.judge -/

@[simp] theorem State.judge_pending (s : State) :
    (s.judge).pending = s.pending := rfl

@[simp] theorem State.judge_freeCount (s : State) :
    (s.judge).freeCount = s.freeCount := rfl

@[simp] theorem State.judge_resetAsserted (s : State) :
    (s.judge).resetAsserted = s.resetAsserted := rfl

@[simp] theorem State.judge_upstream (s : State) :
    (s.judge).upstream = s.upstream := rfl

@[simp] theorem State.judge_windows (s : State) :
    (s.judge).windows = s.windows := rfl

@[simp] theorem State.judge_cursors (s : State) :
    (s.judge).cursors = s.cursors := rfl

@[simp] theorem State.judge_settings (s : State) :
    (s.judge).settings = s.settings := rfl

@[simp] theorem State.judge_queue (s : State) :
    (s.judge).queue = s.queue := rfl

@[simp] theorem State.judge_classTable (s : State) :
    (s.judge).classTable = s.classTable := rfl

@[simp] theorem State.judge_mem (s : State) :
    (s.judge).mem = s.mem := rfl

@[simp] theorem State.judge_slots (s : State) :
    (s.judge).slots = s.slots := rfl

@[simp] theorem State.judge_events_sources (s : State) :
    (s.judge).events.sources = s.judgeSources.events.sources := rfl

@[simp] theorem State.judge_events_floor (s : State) :
    (s.judge).events.floor = s.events.floor := rfl

@[simp] theorem State.judge_events_stack (s : State) :
    (s.judge).events.stack = s.events.stack := rfl

@[simp] theorem State.judge_events_irqn (s : State) :
    (s.judge).events.irqn = s.judgeSources.irqnWanted := rfl

@[simp] theorem State.judge_drain (s : State) :
    (s.judge).drain = s.drain := rfl

@[simp] theorem State.judge_service (s : State) :
    (s.judge).service = s.service := rfl

/-! ### State.raiseFloor -/

@[simp] theorem State.raiseFloor_pending (l : Nat) (s : State) :
    (s.raiseFloor l).pending = s.pending := rfl

@[simp] theorem State.raiseFloor_freeCount (l : Nat) (s : State) :
    (s.raiseFloor l).freeCount = s.freeCount := rfl

@[simp] theorem State.raiseFloor_resetAsserted (l : Nat) (s : State) :
    (s.raiseFloor l).resetAsserted = s.resetAsserted := rfl

@[simp] theorem State.raiseFloor_upstream (l : Nat) (s : State) :
    (s.raiseFloor l).upstream = s.upstream := rfl

@[simp] theorem State.raiseFloor_windows (l : Nat) (s : State) :
    (s.raiseFloor l).windows = s.windows := rfl

@[simp] theorem State.raiseFloor_cursors (l : Nat) (s : State) :
    (s.raiseFloor l).cursors = s.cursors := rfl

@[simp] theorem State.raiseFloor_settings (l : Nat) (s : State) :
    (s.raiseFloor l).settings = s.settings := rfl

@[simp] theorem State.raiseFloor_queue (l : Nat) (s : State) :
    (s.raiseFloor l).queue = s.queue := rfl

@[simp] theorem State.raiseFloor_classTable (l : Nat) (s : State) :
    (s.raiseFloor l).classTable = s.classTable := rfl

@[simp] theorem State.raiseFloor_mem (l : Nat) (s : State) :
    (s.raiseFloor l).mem = s.mem := rfl

@[simp] theorem State.raiseFloor_slots (l : Nat) (s : State) :
    (s.raiseFloor l).slots = s.slots := rfl

@[simp] theorem State.raiseFloor_events_sources (l : Nat) (s : State) :
    (s.raiseFloor l).events.sources = s.events.sources := rfl

@[simp] theorem State.raiseFloor_events_floor (l : Nat) (s : State) :
    (s.raiseFloor l).events.floor = l := rfl

@[simp] theorem State.raiseFloor_events_stack (l : Nat) (s : State) :
    (s.raiseFloor l).events.stack = s.events.floor :: s.events.stack := rfl

@[simp] theorem State.raiseFloor_events_irqn (l : Nat) (s : State) :
    (s.raiseFloor l).events.irqn = s.events.irqn := rfl

@[simp] theorem State.raiseFloor_drain (l : Nat) (s : State) :
    (s.raiseFloor l).drain = s.drain := rfl

@[simp] theorem State.raiseFloor_service (l : Nat) (s : State) :
    (s.raiseFloor l).service = s.service := rfl

/-! ### State.setMonitor -/

@[simp] theorem State.setMonitor_pending (m : MonitorRecord) (s : State) :
    (s.setMonitor m).pending = s.pending := rfl

@[simp] theorem State.setMonitor_freeCount (m : MonitorRecord) (s : State) :
    (s.setMonitor m).freeCount = s.freeCount := rfl

@[simp] theorem State.setMonitor_resetAsserted (m : MonitorRecord) (s : State) :
    (s.setMonitor m).resetAsserted = s.resetAsserted := rfl

@[simp] theorem State.setMonitor_upstream (m : MonitorRecord) (s : State) :
    (s.setMonitor m).upstream = s.upstream := rfl

@[simp] theorem State.setMonitor_windows (m : MonitorRecord) (s : State) :
    (s.setMonitor m).windows = s.windows := rfl

@[simp] theorem State.setMonitor_cursors (m : MonitorRecord) (s : State) :
    (s.setMonitor m).cursors = s.cursors := rfl

@[simp] theorem State.setMonitor_settings (m : MonitorRecord) (s : State) :
    (s.setMonitor m).settings = s.settings := rfl

@[simp] theorem State.setMonitor_queue (m : MonitorRecord) (s : State) :
    (s.setMonitor m).queue = s.queue := rfl

@[simp] theorem State.setMonitor_classTable (m : MonitorRecord) (s : State) :
    (s.setMonitor m).classTable = s.classTable := rfl

@[simp] theorem State.setMonitor_mem (m : MonitorRecord) (s : State) :
    (s.setMonitor m).mem = s.mem := rfl

@[simp] theorem State.setMonitor_slots (m : MonitorRecord) (s : State) :
    (s.setMonitor m).slots = s.slots := rfl

@[simp] theorem State.setMonitor_events (m : MonitorRecord) (s : State) :
    (s.setMonitor m).events = s.events := rfl

@[simp] theorem State.setMonitor_drain (m : MonitorRecord) (s : State) :
    (s.setMonitor m).drain = s.drain := rfl

@[simp] theorem State.setMonitor_service_frame (m : MonitorRecord) (s : State) :
    (s.setMonitor m).service.frame = s.service.frame := rfl

@[simp] theorem State.setMonitor_service_ssnLow (m : MonitorRecord) (s : State) :
    (s.setMonitor m).service.ssnLow = s.service.ssnLow := rfl

@[simp] theorem State.setMonitor_service_reply (m : MonitorRecord) (s : State) :
    (s.setMonitor m).service.reply = s.service.reply := rfl

@[simp] theorem State.setMonitor_service_shifted (m : MonitorRecord) (s : State) :
    (s.setMonitor m).service.shifted = s.service.shifted := rfl

@[simp] theorem State.setMonitor_service_monitor (m : MonitorRecord) (s : State) :
    (s.setMonitor m).service.monitor = m := rfl

@[simp] theorem State.setMonitor_service_bits (m : MonitorRecord) (s : State) :
    (s.setMonitor m).service.bits = s.service.bits := rfl

@[simp] theorem State.setMonitor_service_stored (m : MonitorRecord) (s : State) :
    (s.setMonitor m).service.stored = s.service.stored := rfl

/-! ### State.answer -/

@[simp] theorem State.answer_pending (r : Reply) (s : State) :
    (s.answer r).pending = s.pending := rfl

@[simp] theorem State.answer_freeCount (r : Reply) (s : State) :
    (s.answer r).freeCount = s.freeCount := rfl

@[simp] theorem State.answer_resetAsserted (r : Reply) (s : State) :
    (s.answer r).resetAsserted = s.resetAsserted := rfl

@[simp] theorem State.answer_upstream (r : Reply) (s : State) :
    (s.answer r).upstream = s.upstream := rfl

@[simp] theorem State.answer_windows (r : Reply) (s : State) :
    (s.answer r).windows = s.windows := rfl

@[simp] theorem State.answer_cursors (r : Reply) (s : State) :
    (s.answer r).cursors = s.cursors := rfl

@[simp] theorem State.answer_settings (r : Reply) (s : State) :
    (s.answer r).settings = s.settings := rfl

@[simp] theorem State.answer_queue (r : Reply) (s : State) :
    (s.answer r).queue = s.queue := rfl

@[simp] theorem State.answer_classTable (r : Reply) (s : State) :
    (s.answer r).classTable = s.classTable := rfl

@[simp] theorem State.answer_mem (r : Reply) (s : State) :
    (s.answer r).mem = s.mem := rfl

@[simp] theorem State.answer_slots (r : Reply) (s : State) :
    (s.answer r).slots = s.slots := rfl

@[simp] theorem State.answer_events (r : Reply) (s : State) :
    (s.answer r).events = s.events := rfl

@[simp] theorem State.answer_drain (r : Reply) (s : State) :
    (s.answer r).drain = s.drain := rfl

@[simp] theorem State.answer_service_frame (r : Reply) (s : State) :
    (s.answer r).service.frame = FrameState.reply := rfl

@[simp] theorem State.answer_service_ssnLow (r : Reply) (s : State) :
    (s.answer r).service.ssnLow = s.service.ssnLow := rfl

@[simp] theorem State.answer_service_reply (r : Reply) (s : State) :
    (s.answer r).service.reply = r.bytes := rfl

@[simp] theorem State.answer_service_shifted (r : Reply) (s : State) :
    (s.answer r).service.shifted = s.service.shifted := rfl

@[simp] theorem State.answer_service_monitor (r : Reply) (s : State) :
    (s.answer r).service.monitor = s.service.monitor := rfl

@[simp] theorem State.answer_service_bits (r : Reply) (s : State) :
    (s.answer r).service.bits = s.service.bits := rfl

@[simp] theorem State.answer_service_stored (r : Reply) (s : State) :
    (s.answer r).service.stored = s.service.stored := rfl

/-! ### State.raiseSsn -/

@[simp] theorem State.raiseSsn_pending (k : Nat) (s : State) :
    (s.raiseSsn k).pending = s.pending := rfl

@[simp] theorem State.raiseSsn_freeCount (k : Nat) (s : State) :
    (s.raiseSsn k).freeCount = s.freeCount := rfl

@[simp] theorem State.raiseSsn_resetAsserted (k : Nat) (s : State) :
    (s.raiseSsn k).resetAsserted = s.resetAsserted := rfl

@[simp] theorem State.raiseSsn_upstream (k : Nat) (s : State) :
    (s.raiseSsn k).upstream = s.upstream := rfl

@[simp] theorem State.raiseSsn_windows (k : Nat) (s : State) :
    (s.raiseSsn k).windows = s.windows := rfl

@[simp] theorem State.raiseSsn_cursors (k : Nat) (s : State) :
    (s.raiseSsn k).cursors = s.cursors := rfl

@[simp] theorem State.raiseSsn_settings (k : Nat) (s : State) :
    (s.raiseSsn k).settings = s.settings := rfl

@[simp] theorem State.raiseSsn_queue (k : Nat) (s : State) :
    (s.raiseSsn k).queue = s.queue := rfl

@[simp] theorem State.raiseSsn_classTable (k : Nat) (s : State) :
    (s.raiseSsn k).classTable = s.classTable := rfl

@[simp] theorem State.raiseSsn_mem (k : Nat) (s : State) :
    (s.raiseSsn k).mem = s.mem := rfl

@[simp] theorem State.raiseSsn_slots (k : Nat) (s : State) :
    (s.raiseSsn k).slots = s.slots := rfl

@[simp] theorem State.raiseSsn_events (k : Nat) (s : State) :
    (s.raiseSsn k).events = s.events := rfl

@[simp] theorem State.raiseSsn_drain (k : Nat) (s : State) :
    (s.raiseSsn k).drain = s.drain := rfl

@[simp] theorem State.raiseSsn_service_frame (k : Nat) (s : State) :
    (s.raiseSsn k).service.frame = FrameState.idle := rfl

@[simp] theorem State.raiseSsn_service_ssnLow (k : Nat) (s : State) :
    (s.raiseSsn k).service.ssnLow = false := rfl

@[simp] theorem State.raiseSsn_service_reply (k : Nat) (s : State) :
    (s.raiseSsn k).service.reply = [] := rfl

@[simp] theorem State.raiseSsn_service_shifted (k : Nat) (s : State) :
    (s.raiseSsn k).service.shifted = s.service.shifted ++ s.service.reply.take k := rfl

@[simp] theorem State.raiseSsn_service_monitor (k : Nat) (s : State) :
    (s.raiseSsn k).service.monitor = s.service.monitor := rfl

@[simp] theorem State.raiseSsn_service_bits (k : Nat) (s : State) :
    (s.raiseSsn k).service.bits = [] := rfl

@[simp] theorem State.raiseSsn_service_stored (k : Nat) (s : State) :
    (s.raiseSsn k).service.stored = [] := rfl

/-! ### State.removeEntry -/

@[simp] theorem State.removeEntry_pending (id : EntryId) (s : State) :
    (s.removeEntry id).pending = s.pending := rfl

@[simp] theorem State.removeEntry_freeCount (id : EntryId) (s : State) :
    (s.removeEntry id).freeCount = s.freeCount := rfl

@[simp] theorem State.removeEntry_resetAsserted (id : EntryId) (s : State) :
    (s.removeEntry id).resetAsserted = s.resetAsserted := rfl

@[simp] theorem State.removeEntry_upstream (id : EntryId) (s : State) :
    (s.removeEntry id).upstream = s.upstream := rfl

@[simp] theorem State.removeEntry_windows (id : EntryId) (s : State) :
    (s.removeEntry id).windows = s.windows := rfl

@[simp] theorem State.removeEntry_cursors (id : EntryId) (s : State) :
    (s.removeEntry id).cursors = s.cursors := rfl

@[simp] theorem State.removeEntry_settings (id : EntryId) (s : State) :
    (s.removeEntry id).settings = s.settings := rfl

@[simp] theorem State.removeEntry_queue_entries (id : EntryId) (s : State) :
    (s.removeEntry id).queue.entries = s.queue.entries.filter (fun e => e.id ≠ id) := rfl

@[simp] theorem State.removeEntry_queue_stamp (id : EntryId) (s : State) :
    (s.removeEntry id).queue.stamp = s.queue.stamp := rfl

@[simp] theorem State.removeEntry_classTable (id : EntryId) (s : State) :
    (s.removeEntry id).classTable = s.classTable := rfl

@[simp] theorem State.removeEntry_mem (id : EntryId) (s : State) :
    (s.removeEntry id).mem = s.mem := rfl

@[simp] theorem State.removeEntry_slots (id : EntryId) (s : State) :
    (s.removeEntry id).slots = s.slots := rfl

@[simp] theorem State.removeEntry_events (id : EntryId) (s : State) :
    (s.removeEntry id).events = s.events := rfl

@[simp] theorem State.removeEntry_drain (id : EntryId) (s : State) :
    (s.removeEntry id).drain = s.drain := rfl

@[simp] theorem State.removeEntry_service (id : EntryId) (s : State) :
    (s.removeEntry id).service = s.service := rfl

/-! ### State.updateEntry -/

@[simp] theorem State.updateEntry_pending (id : EntryId) (f : Entry → Entry) (s : State) :
    (s.updateEntry id f).pending = s.pending := rfl

@[simp] theorem State.updateEntry_freeCount (id : EntryId) (f : Entry → Entry) (s : State) :
    (s.updateEntry id f).freeCount = s.freeCount := rfl

@[simp] theorem State.updateEntry_resetAsserted (id : EntryId) (f : Entry → Entry) (s : State) :
    (s.updateEntry id f).resetAsserted = s.resetAsserted := rfl

@[simp] theorem State.updateEntry_upstream (id : EntryId) (f : Entry → Entry) (s : State) :
    (s.updateEntry id f).upstream = s.upstream := rfl

@[simp] theorem State.updateEntry_windows (id : EntryId) (f : Entry → Entry) (s : State) :
    (s.updateEntry id f).windows = s.windows := rfl

@[simp] theorem State.updateEntry_cursors (id : EntryId) (f : Entry → Entry) (s : State) :
    (s.updateEntry id f).cursors = s.cursors := rfl

@[simp] theorem State.updateEntry_settings (id : EntryId) (f : Entry → Entry) (s : State) :
    (s.updateEntry id f).settings = s.settings := rfl

@[simp] theorem State.updateEntry_queue_entries (id : EntryId) (f : Entry → Entry) (s : State) :
    (s.updateEntry id f).queue.entries = s.queue.entries.map (fun e => if e.id = id then f e else e) := rfl

@[simp] theorem State.updateEntry_queue_stamp (id : EntryId) (f : Entry → Entry) (s : State) :
    (s.updateEntry id f).queue.stamp = s.queue.stamp := rfl

@[simp] theorem State.updateEntry_classTable (id : EntryId) (f : Entry → Entry) (s : State) :
    (s.updateEntry id f).classTable = s.classTable := rfl

@[simp] theorem State.updateEntry_mem (id : EntryId) (f : Entry → Entry) (s : State) :
    (s.updateEntry id f).mem = s.mem := rfl

@[simp] theorem State.updateEntry_slots (id : EntryId) (f : Entry → Entry) (s : State) :
    (s.updateEntry id f).slots = s.slots := rfl

@[simp] theorem State.updateEntry_events (id : EntryId) (f : Entry → Entry) (s : State) :
    (s.updateEntry id f).events = s.events := rfl

@[simp] theorem State.updateEntry_drain (id : EntryId) (f : Entry → Entry) (s : State) :
    (s.updateEntry id f).drain = s.drain := rfl

@[simp] theorem State.updateEntry_service (id : EntryId) (f : Entry → Entry) (s : State) :
    (s.updateEntry id f).service = s.service := rfl

/-! ### State.releaseSlot -/

@[simp] theorem State.releaseSlot_pending (id : EntryId) (s : State) :
    (s.releaseSlot id).pending = s.pending := rfl

@[simp] theorem State.releaseSlot_freeCount (id : EntryId) (s : State) :
    (s.releaseSlot id).freeCount = s.freeCount := rfl

@[simp] theorem State.releaseSlot_resetAsserted (id : EntryId) (s : State) :
    (s.releaseSlot id).resetAsserted = s.resetAsserted := rfl

@[simp] theorem State.releaseSlot_upstream (id : EntryId) (s : State) :
    (s.releaseSlot id).upstream = s.upstream := rfl

@[simp] theorem State.releaseSlot_windows (id : EntryId) (s : State) :
    (s.releaseSlot id).windows = s.windows := rfl

@[simp] theorem State.releaseSlot_cursors (id : EntryId) (s : State) :
    (s.releaseSlot id).cursors = s.cursors := rfl

@[simp] theorem State.releaseSlot_settings (id : EntryId) (s : State) :
    (s.releaseSlot id).settings = s.settings := rfl

@[simp] theorem State.releaseSlot_queue (id : EntryId) (s : State) :
    (s.releaseSlot id).queue = s.queue := rfl

@[simp] theorem State.releaseSlot_classTable (id : EntryId) (s : State) :
    (s.releaseSlot id).classTable = s.classTable := rfl

@[simp] theorem State.releaseSlot_mem (id : EntryId) (s : State) :
    (s.releaseSlot id).mem = s.mem := rfl

@[simp] theorem State.releaseSlot_slots (id : EntryId) (s : State) :
    (s.releaseSlot id).slots = s.slots.filter (fun x => x.owner ≠ id) := rfl

@[simp] theorem State.releaseSlot_events (id : EntryId) (s : State) :
    (s.releaseSlot id).events = s.events := rfl

@[simp] theorem State.releaseSlot_drain (id : EntryId) (s : State) :
    (s.releaseSlot id).drain = s.drain := rfl

@[simp] theorem State.releaseSlot_service (id : EntryId) (s : State) :
    (s.releaseSlot id).service = s.service := rfl

/-! ### State.storeFetched -/

@[simp] theorem State.storeFetched_pending (id : EntryId) (f : Fetched) (s : State) :
    (s.storeFetched id f).pending = s.pending := rfl

@[simp] theorem State.storeFetched_freeCount (id : EntryId) (f : Fetched) (s : State) :
    (s.storeFetched id f).freeCount = s.freeCount := rfl

@[simp] theorem State.storeFetched_resetAsserted (id : EntryId) (f : Fetched) (s : State) :
    (s.storeFetched id f).resetAsserted = s.resetAsserted := rfl

@[simp] theorem State.storeFetched_upstream (id : EntryId) (f : Fetched) (s : State) :
    (s.storeFetched id f).upstream = s.upstream := rfl

@[simp] theorem State.storeFetched_windows (id : EntryId) (f : Fetched) (s : State) :
    (s.storeFetched id f).windows = s.windows := rfl

@[simp] theorem State.storeFetched_cursors (id : EntryId) (f : Fetched) (s : State) :
    (s.storeFetched id f).cursors = s.cursors := rfl

@[simp] theorem State.storeFetched_settings (id : EntryId) (f : Fetched) (s : State) :
    (s.storeFetched id f).settings = s.settings := rfl

@[simp] theorem State.storeFetched_queue (id : EntryId) (f : Fetched) (s : State) :
    (s.storeFetched id f).queue = s.queue := rfl

@[simp] theorem State.storeFetched_classTable (id : EntryId) (f : Fetched) (s : State) :
    (s.storeFetched id f).classTable = s.classTable := rfl

@[simp] theorem State.storeFetched_mem (id : EntryId) (f : Fetched) (s : State) :
    (s.storeFetched id f).mem = s.mem := rfl

@[simp] theorem State.storeFetched_slots (id : EntryId) (f : Fetched) (s : State) :
    (s.storeFetched id f).slots = s.slots.map (fun x => if x.owner = id then { x with fetched := some f } else x) := rfl

@[simp] theorem State.storeFetched_events (id : EntryId) (f : Fetched) (s : State) :
    (s.storeFetched id f).events = s.events := rfl

@[simp] theorem State.storeFetched_drain (id : EntryId) (f : Fetched) (s : State) :
    (s.storeFetched id f).drain = s.drain := rfl

@[simp] theorem State.storeFetched_service (id : EntryId) (f : Fetched) (s : State) :
    (s.storeFetched id f).service = s.service := rfl

/-! ### State.countFree -/

@[simp] theorem State.countFree_pending (s : State) :
    (s.countFree).pending = s.pending := rfl

@[simp] theorem State.countFree_freeCount (s : State) :
    (s.countFree).freeCount = s.freeCount + 1 := rfl

@[simp] theorem State.countFree_resetAsserted (s : State) :
    (s.countFree).resetAsserted = s.resetAsserted := rfl

@[simp] theorem State.countFree_upstream (s : State) :
    (s.countFree).upstream = s.upstream := rfl

@[simp] theorem State.countFree_windows (s : State) :
    (s.countFree).windows = s.windows := rfl

@[simp] theorem State.countFree_cursors (s : State) :
    (s.countFree).cursors = s.cursors := rfl

@[simp] theorem State.countFree_settings (s : State) :
    (s.countFree).settings = s.settings := rfl

@[simp] theorem State.countFree_queue (s : State) :
    (s.countFree).queue = s.queue := rfl

@[simp] theorem State.countFree_classTable (s : State) :
    (s.countFree).classTable = s.classTable := rfl

@[simp] theorem State.countFree_mem (s : State) :
    (s.countFree).mem = s.mem := rfl

@[simp] theorem State.countFree_slots (s : State) :
    (s.countFree).slots = s.slots := rfl

@[simp] theorem State.countFree_events (s : State) :
    (s.countFree).events = s.events := rfl

@[simp] theorem State.countFree_drain (s : State) :
    (s.countFree).drain = s.drain := rfl

@[simp] theorem State.countFree_service (s : State) :
    (s.countFree).service = s.service := rfl

/-! ### State.setBits -/

@[simp] theorem State.setBits_pending (l : List Bool) (s : State) :
    (s.setBits l).pending = s.pending := rfl

@[simp] theorem State.setBits_freeCount (l : List Bool) (s : State) :
    (s.setBits l).freeCount = s.freeCount := rfl

@[simp] theorem State.setBits_resetAsserted (l : List Bool) (s : State) :
    (s.setBits l).resetAsserted = s.resetAsserted := rfl

@[simp] theorem State.setBits_upstream (l : List Bool) (s : State) :
    (s.setBits l).upstream = s.upstream := rfl

@[simp] theorem State.setBits_windows (l : List Bool) (s : State) :
    (s.setBits l).windows = s.windows := rfl

@[simp] theorem State.setBits_cursors (l : List Bool) (s : State) :
    (s.setBits l).cursors = s.cursors := rfl

@[simp] theorem State.setBits_settings (l : List Bool) (s : State) :
    (s.setBits l).settings = s.settings := rfl

@[simp] theorem State.setBits_queue (l : List Bool) (s : State) :
    (s.setBits l).queue = s.queue := rfl

@[simp] theorem State.setBits_classTable (l : List Bool) (s : State) :
    (s.setBits l).classTable = s.classTable := rfl

@[simp] theorem State.setBits_mem (l : List Bool) (s : State) :
    (s.setBits l).mem = s.mem := rfl

@[simp] theorem State.setBits_slots (l : List Bool) (s : State) :
    (s.setBits l).slots = s.slots := rfl

@[simp] theorem State.setBits_events (l : List Bool) (s : State) :
    (s.setBits l).events = s.events := rfl

@[simp] theorem State.setBits_drain (l : List Bool) (s : State) :
    (s.setBits l).drain = s.drain := rfl

@[simp] theorem State.setBits_service_frame (l : List Bool) (s : State) :
    (s.setBits l).service.frame = s.service.frame := rfl

@[simp] theorem State.setBits_service_ssnLow (l : List Bool) (s : State) :
    (s.setBits l).service.ssnLow = s.service.ssnLow := rfl

@[simp] theorem State.setBits_service_bits (l : List Bool) (s : State) :
    (s.setBits l).service.bits = l := rfl

@[simp] theorem State.setBits_service_stored (l : List Bool) (s : State) :
    (s.setBits l).service.stored = s.service.stored := rfl

@[simp] theorem State.setBits_service_reply (l : List Bool) (s : State) :
    (s.setBits l).service.reply = s.service.reply := rfl

@[simp] theorem State.setBits_service_shifted (l : List Bool) (s : State) :
    (s.setBits l).service.shifted = s.service.shifted := rfl

@[simp] theorem State.setBits_service_monitor (l : List Bool) (s : State) :
    (s.setBits l).service.monitor = s.service.monitor := rfl

/-! ### State.store -/

@[simp] theorem State.store_pending (l : List Byte) (s : State) :
    (s.store l).pending = s.pending := rfl

@[simp] theorem State.store_freeCount (l : List Byte) (s : State) :
    (s.store l).freeCount = s.freeCount := rfl

@[simp] theorem State.store_resetAsserted (l : List Byte) (s : State) :
    (s.store l).resetAsserted = s.resetAsserted := rfl

@[simp] theorem State.store_upstream (l : List Byte) (s : State) :
    (s.store l).upstream = s.upstream := rfl

@[simp] theorem State.store_windows (l : List Byte) (s : State) :
    (s.store l).windows = s.windows := rfl

@[simp] theorem State.store_cursors (l : List Byte) (s : State) :
    (s.store l).cursors = s.cursors := rfl

@[simp] theorem State.store_settings (l : List Byte) (s : State) :
    (s.store l).settings = s.settings := rfl

@[simp] theorem State.store_queue (l : List Byte) (s : State) :
    (s.store l).queue = s.queue := rfl

@[simp] theorem State.store_classTable (l : List Byte) (s : State) :
    (s.store l).classTable = s.classTable := rfl

@[simp] theorem State.store_mem (l : List Byte) (s : State) :
    (s.store l).mem = s.mem := rfl

@[simp] theorem State.store_slots (l : List Byte) (s : State) :
    (s.store l).slots = s.slots := rfl

@[simp] theorem State.store_events (l : List Byte) (s : State) :
    (s.store l).events = s.events := rfl

@[simp] theorem State.store_drain (l : List Byte) (s : State) :
    (s.store l).drain = s.drain := rfl

@[simp] theorem State.store_service_frame (l : List Byte) (s : State) :
    (s.store l).service.frame = s.service.frame := rfl

@[simp] theorem State.store_service_ssnLow (l : List Byte) (s : State) :
    (s.store l).service.ssnLow = s.service.ssnLow := rfl

@[simp] theorem State.store_service_bits (l : List Byte) (s : State) :
    (s.store l).service.bits = s.service.bits := rfl

@[simp] theorem State.store_service_stored (l : List Byte) (s : State) :
    (s.store l).service.stored = l := rfl

@[simp] theorem State.store_service_reply (l : List Byte) (s : State) :
    (s.store l).service.reply = s.service.reply := rfl

@[simp] theorem State.store_service_shifted (l : List Byte) (s : State) :
    (s.store l).service.shifted = s.service.shifted := rfl

@[simp] theorem State.store_service_monitor (l : List Byte) (s : State) :
    (s.store l).service.monitor = s.service.monitor := rfl

/-! ### State.shiftOut -/

@[simp] theorem State.shiftOut_pending (b : Byte) (rest : List Byte) (s : State) :
    (s.shiftOut b rest).pending = s.pending := rfl

@[simp] theorem State.shiftOut_freeCount (b : Byte) (rest : List Byte) (s : State) :
    (s.shiftOut b rest).freeCount = s.freeCount := rfl

@[simp] theorem State.shiftOut_resetAsserted (b : Byte) (rest : List Byte) (s : State) :
    (s.shiftOut b rest).resetAsserted = s.resetAsserted := rfl

@[simp] theorem State.shiftOut_upstream (b : Byte) (rest : List Byte) (s : State) :
    (s.shiftOut b rest).upstream = s.upstream := rfl

@[simp] theorem State.shiftOut_windows (b : Byte) (rest : List Byte) (s : State) :
    (s.shiftOut b rest).windows = s.windows := rfl

@[simp] theorem State.shiftOut_cursors (b : Byte) (rest : List Byte) (s : State) :
    (s.shiftOut b rest).cursors = s.cursors := rfl

@[simp] theorem State.shiftOut_settings (b : Byte) (rest : List Byte) (s : State) :
    (s.shiftOut b rest).settings = s.settings := rfl

@[simp] theorem State.shiftOut_queue (b : Byte) (rest : List Byte) (s : State) :
    (s.shiftOut b rest).queue = s.queue := rfl

@[simp] theorem State.shiftOut_classTable (b : Byte) (rest : List Byte) (s : State) :
    (s.shiftOut b rest).classTable = s.classTable := rfl

@[simp] theorem State.shiftOut_mem (b : Byte) (rest : List Byte) (s : State) :
    (s.shiftOut b rest).mem = s.mem := rfl

@[simp] theorem State.shiftOut_slots (b : Byte) (rest : List Byte) (s : State) :
    (s.shiftOut b rest).slots = s.slots := rfl

@[simp] theorem State.shiftOut_events (b : Byte) (rest : List Byte) (s : State) :
    (s.shiftOut b rest).events = s.events := rfl

@[simp] theorem State.shiftOut_drain (b : Byte) (rest : List Byte) (s : State) :
    (s.shiftOut b rest).drain = s.drain := rfl

@[simp] theorem State.shiftOut_service_frame (b : Byte) (rest : List Byte) (s : State) :
    (s.shiftOut b rest).service.frame = s.service.frame := rfl

@[simp] theorem State.shiftOut_service_ssnLow (b : Byte) (rest : List Byte) (s : State) :
    (s.shiftOut b rest).service.ssnLow = s.service.ssnLow := rfl

@[simp] theorem State.shiftOut_service_bits (b : Byte) (rest : List Byte) (s : State) :
    (s.shiftOut b rest).service.bits = s.service.bits := rfl

@[simp] theorem State.shiftOut_service_stored (b : Byte) (rest : List Byte) (s : State) :
    (s.shiftOut b rest).service.stored = s.service.stored := rfl

@[simp] theorem State.shiftOut_service_reply (b : Byte) (rest : List Byte) (s : State) :
    (s.shiftOut b rest).service.reply = rest := rfl

@[simp] theorem State.shiftOut_service_shifted (b : Byte) (rest : List Byte) (s : State) :
    (s.shiftOut b rest).service.shifted = s.service.shifted ++ [b] := rfl

@[simp] theorem State.shiftOut_service_monitor (b : Byte) (rest : List Byte) (s : State) :
    (s.shiftOut b rest).service.monitor = s.service.monitor := rfl

end Sys2Proof.Machine
end

