-- ==== Sys2Proof/Laws/Ops.lean ====
section
/-! SUPPORT. One lemma per shared operation: everything it can do. -/

namespace Sys2Proof.Machine

open Sys2Proof

/-! ### Sources -/

theorem Source.ofVector_vector (src : Source) : Source.ofVector src.vector = src := by
  cases src <;> rfl

theorem Source.vector_ofVector (i : Fin 13) : (Source.ofVector i).vector = i := by
  revert i; decide

theorem Source.vector_inj {a b : Source} (h : a.vector = b.vector) : a = b := by
  rw [← Source.ofVector_vector a, h, Source.ofVector_vector]

theorem Source.mem_all (src : Source) : src ∈ Source.all := by cases src <;> decide

@[simp] theorem State.source_setSource (src : Source) (r : SourceRecord) (s : State) :
    (s.setSource src r).source src = r := by
  simp [State.source]

theorem State.source_setSource_ne {src other : Source} (h : other ≠ src) (r : SourceRecord)
    (s : State) : (s.setSource src r).source other = s.source other := by
  have hne : src.vector.val ≠ other.vector.val := fun e =>
    h (Source.vector_inj (Fin.ext e)).symm
  simp [State.source, hne]

@[simp] theorem State.source_report (src : Source) (d : Detail) (s : State) :
    (s.report src d).source src = (s.source src).record d := by
  simp [State.report]

theorem State.source_report_ne {src other : Source} (h : other ≠ src) (d : Detail) (s : State) :
    (s.report src d).source other = s.source other := by
  simp [State.report, State.source_setSource_ne h]

theorem State.source_judgeSources (src : Source) (s : State) :
    s.judgeSources.source src = { s.source src with pending := s.judgedPending src } := by
  simp [State.source, Source.ofVector_vector]

theorem State.source_judge (src : Source) (s : State) :
    s.judge.source src = { s.source src with pending := s.judgedPending src } := by
  rw [← State.source_judgeSources]; rfl

/-- The judgement changes no condition, so a second judgement finds what the first did. -/
theorem State.judgedPending_judge (src : Source) (s : State) :
    s.judge.judgedPending src = s.judgedPending src := by
  cases src <;>
    simp only [State.judgedPending, State.source_judge, State.exhausted, State.judge_mem,
      State.judge_cursors, State.judge_drain, State.judge_settings, State.judge_queue] <;> rfl

/-- After a judgement the level sources and IRQN are as their conditions say. -/
theorem State.eventsJudged_judge (s : State) : s.judge.EventsJudged where
  pending src := by rw [State.judgedPending_judge, State.source_judge]
  irqn := rfl

/-! ### The service port -/

theorem serve_command {s : State} (h : s.inCommand) (f : State → State × Reply) :
    serve s f = .next ((f s).1.answer (f s).2) := if_pos h

theorem serve_ignored {s : State} (h : ¬ s.inCommand) (f : State → State × Reply) :
    serve s f = .next s := if_neg h

/-- A frame's command ends in one of two ways. -/
theorem serve_next {s t : State} {f : State → State × Reply} (h : serve s f = .next t) :
    (s.inCommand ∧ t = (f s).1.answer (f s).2) ∨ (¬ s.inCommand ∧ t = s) := by
  by_cases hc : s.inCommand
  · rw [serve_command hc] at h
    exact .inl ⟨hc, (Host.Outcome.next.inj h).symm⟩
  · rw [serve_ignored hc] at h
    exact .inr ⟨hc, (Host.Outcome.next.inj h).symm⟩

/-- A frame's command always gives a next state. -/
theorem serve_isNext (s : State) (f : State → State × Reply) : ∃ t, serve s f = .next t := by
  by_cases hc : s.inCommand
  · exact ⟨_, serve_command hc f⟩
  · exact ⟨_, serve_ignored hc f⟩

/-! ### The time base -/

theorem expire_cases (left : Option Nat) (f : State → State) (s : State) :
    expire left f s = s ∨
      ∃ k, left = some k ∧ s.nextWithin k = true ∧ expire left f s = f (s.advance k) := by
  cases left with
  | none => exact .inl rfl
  | some k =>
    by_cases h : s.nextWithin k = true
    · exact .inr ⟨k, rfl, h, by simp [expire, h]⟩
    · exact .inl (by simp [expire, h])

theorem State.advance_asserted {s : State} (h : s.resetAsserted = true) (k : Nat) :
    s.advance k = s := by
  simp [State.advance, h]

theorem State.nextWithin_iff (s : State) (k : Nat) :
    s.nextWithin k = true ↔ ∀ t ∈ s.timesLeft, k ≤ t := by
  simp [State.nextWithin]

theorem TagRecord.advance_eq_busy {k : Nat} {r : TagRecord} {o : EntryId} {p : Phase}
    {i : Option Issued} (h : r.advance k = .busy o p i) :
    ∃ j, r = .busy o p j ∧ i = j.map (fun x => { x with timer := x.timer + k }) := by
  cases r with
  | free => simp [TagRecord.advance] at h
  | quarantined => simp [TagRecord.advance] at h
  | busy o' p' j =>
    cases j with
    | none =>
      simp only [TagRecord.advance, TagRecord.busy.injEq] at h
      exact ⟨none, by simp [h.1, h.2.1], by simp [← h.2.2]⟩
    | some x =>
      simp only [TagRecord.advance, TagRecord.busy.injEq] at h
      exact ⟨some x, by simp [h.1, h.2.1], by simp [← h.2.2]⟩

/-! ### The queue -/

theorem State.findEntry_some {s : State} {id : EntryId} {e : Entry} (h : s.findEntry id = some e) :
    e ∈ s.queue.entries ∧ e.id = id := by
  unfold State.findEntry at h
  exact ⟨List.mem_of_find?_eq_some h, by simpa using List.find?_some h⟩

theorem State.enqueue_queue (requester : Requester) (tag : Fin 4) (up : Word) (origin : Origin)
    (kind : EntryKind) (physical : Word) (length : Nat) (cls : Fin 8) (s : State) :
    (s.enqueue requester tag up origin kind physical length cls).queue =
      { entries := s.queue.entries ++
          [{ requester := requester, tag := tag, upAddress := up, origin := origin, kind := kind,
             physical := physical, length := length, cls := cls, stamp := s.queue.stamp,
             holdLimit := s.settings.holdLimit, holdTimer := 0, state := .waiting, dtag := none }],
        stamp := s.queue.stamp + 1 } := by
  cases requester <;> rfl

/-- Besides the queue and the occupancy flags, an admission writes nothing. -/
theorem State.enqueue_frame (requester : Requester) (tag : Fin 4) (up : Word) (origin : Origin)
    (kind : EntryKind) (physical : Word) (length : Nat) (cls : Fin 8) (s : State) :
    ∃ q u, s.enqueue requester tag up origin kind physical length cls =
      { s with queue := q, upstream := { s.upstream with tagBusy := u } } := by
  cases requester with
  | bus n => exact ⟨_, _, rfl⟩
  | monitor => exact ⟨_, s.upstream.tagBusy, rfl⟩

theorem State.deliver_queue (e : Entry) (o : UpOutcome) (data : List Word) (s : State) :
    (s.deliver e o data).queue = s.queue := by
  unfold State.deliver; split <;> rfl

theorem State.raiseWatch_queue (e : Entry) (s : State) : (s.raiseWatch e).queue = s.queue := by
  unfold State.raiseWatch
  split
  · split <;> rfl
  · rfl
  · rfl

theorem State.informDrain_queue (r : Requester) (s : State) :
    (s.informDrain r).queue = s.queue := by
  unfold State.informDrain; split <;> rfl

/-- R38, step 1: a completion removes the entry; the others keep their order. -/
theorem State.complete_queue (e : Entry) (o : UpOutcome) (data : List Word) (wrote : Bool)
    (s : State) :
    (s.complete e o data wrote).queue =
      { s.queue with entries := s.queue.entries.filter (fun x => x.id ≠ e.id) } := by
  unfold State.complete
  split <;>
    simp [State.informDrain_queue, State.raiseWatch_queue, State.deliver_queue, State.removeEntry]

/-- What a completion leaves alone. -/
structure State.CompletionFrame (s t : State) : Prop where
  pending : t.pending = s.pending
  freeCount : t.freeCount = s.freeCount
  resetAsserted : t.resetAsserted = s.resetAsserted
  offered : t.upstream.offered = s.upstream.offered
  windows : t.windows = s.windows
  cursors : t.cursors = s.cursors
  settings : t.settings = s.settings
  classTable : t.classTable = s.classTable
  mem : t.mem = s.mem
  slots : t.slots = s.slots
  floor : t.events.floor = s.events.floor
  stack : t.events.stack = s.events.stack
  irqn : t.events.irqn = s.events.irqn
  drainMask : t.drain.mask = s.drain.mask
  drainLimit : t.drain.limit = s.drain.limit
  drainTimer : t.drain.timer = s.drain.timer
  frame : t.service.frame = s.service.frame
  ssnLow : t.service.ssnLow = s.service.ssnLow
  reply : t.service.reply = s.service.reply
  shifted : t.service.shifted = s.service.shifted
  bits : t.service.bits = s.service.bits
  stored : t.service.stored = s.service.stored

theorem State.CompletionFrame.refl (s : State) : s.CompletionFrame s := by constructor <;> rfl

theorem State.CompletionFrame.trans {s t u : State} (h : s.CompletionFrame t)
    (k : t.CompletionFrame u) : s.CompletionFrame u := by
  constructor
  · rw [k.pending, h.pending]
  · rw [k.freeCount, h.freeCount]
  · rw [k.resetAsserted, h.resetAsserted]
  · rw [k.offered, h.offered]
  · rw [k.windows, h.windows]
  · rw [k.cursors, h.cursors]
  · rw [k.settings, h.settings]
  · rw [k.classTable, h.classTable]
  · rw [k.mem, h.mem]
  · rw [k.slots, h.slots]
  · rw [k.floor, h.floor]
  · rw [k.stack, h.stack]
  · rw [k.irqn, h.irqn]
  · rw [k.drainMask, h.drainMask]
  · rw [k.drainLimit, h.drainLimit]
  · rw [k.drainTimer, h.drainTimer]
  · rw [k.frame, h.frame]
  · rw [k.ssnLow, h.ssnLow]
  · rw [k.reply, h.reply]
  · rw [k.shifted, h.shifted]
  · rw [k.bits, h.bits]
  · rw [k.stored, h.stored]

theorem State.deliver_frame (e : Entry) (o : UpOutcome) (data : List Word) (s : State) :
    s.CompletionFrame (s.deliver e o data) := by
  unfold State.deliver; split <;> constructor <;> rfl

theorem State.raiseWatch_frame (e : Entry) (s : State) : s.CompletionFrame (s.raiseWatch e) := by
  unfold State.raiseWatch
  split
  · split
    · constructor <;> rfl
    · exact .refl s
  · exact .refl s
  · exact .refl s

theorem State.informDrain_frame (r : Requester) (s : State) :
    s.CompletionFrame (s.informDrain r) := by
  unfold State.informDrain; split
  · constructor <;> rfl
  · exact .refl s

/-- A completion touches the queue, the responses, the occupancy flags, the monitor result record, the
source records and the drain state, and nothing else. -/
theorem State.complete_frame (e : Entry) (o : UpOutcome) (data : List Word) (wrote : Bool)
    (s : State) : s.CompletionFrame (s.complete e o data wrote) := by
  have h0 : s.CompletionFrame (s.removeEntry e.id) := by constructor <;> rfl
  unfold State.complete
  split
  · exact ((h0.trans (State.deliver_frame ..)).trans (State.raiseWatch_frame ..)).trans
      (State.informDrain_frame ..)
  · exact (h0.trans (State.deliver_frame ..)).trans (State.informDrain_frame ..)

/-! ### REQUEST_TAKE -/

theorem State.upReady_iff (s : State) :
    s.upReady = true ↔ s.resetAsserted = false ∧ s.queue.entries.length < 24 := by
  unfold State.upReady queueDepth
  rw [Bool.and_eq_true, decide_eq_true_iff]
  simp

/-- The request at the front of the channel is taken (R25). -/
theorem exec_requestTake_takes {s : State} {o : Option Request} {r : Request} {rest : List Request}
    (h : s.Takes o r rest) :
    exec (.requestTake o) s = .next ((s.channel rest).takeRequest r).judge := by
  obtain ⟨h1, h2, h3⟩ := h
  simp only [exec, execRequestTake, h1, if_true]
  unfold State.takeFront
  have e1 : (s.offer o).upstream.offered = r :: rest := h3
  have e2 : (s.offer o).upReady = true := (s.offer o).upReady_iff.mpr h2
  rw [e1]
  simp only [e2, if_true]
  rfl

/-- A request that passes the tag check and the drain check is decoded (R26, R27, R13). -/
theorem exec_requestTake_decodes {s : State} {o : Option Request} {r : Request}
    {rest : List Request} (h : s.Decodes o r rest) :
    exec (.requestTake o) s = .next ((s.channel rest).carryOut r (s.decode r)).judge := by
  rw [exec_requestTake_takes h.takes]
  have h1 : (s.channel rest).tagIsBusy r.requester r.tag = false := h.tag
  have h3 : ¬ ((s.channel rest).drain.state ≠ .none ∧
      inMask (s.channel rest).drain.mask (.bus r.requester) = true) := by
    intro ⟨ha, hb⟩
    rcases h.drain with h | h
    · exact ha h
    · exact absurd (h.symm.trans hb) (by simp)
  unfold State.takeRequest
  rw [h1, if_neg (by simp), if_neg h3]
  rfl

/-! ### The arbiter -/

theorem pickMax_mem {α : Type} (key : α → Nat) {l : List α} {a : α} (h : pickMax key l = some a) :
    a ∈ l := by
  induction l generalizing a with
  | nil => simp [pickMax] at h
  | cons b rest ih =>
    simp only [pickMax] at h
    split at h
    · simp_all
    · rename_i c hc
      split at h
      · exact List.mem_cons_of_mem _ (ih (by rw [hc, ← h]))
      · simp_all

/-- No member has a greater key. -/
theorem pickMax_greatest {α : Type} (key : α → Nat) {l : List α} {a : α}
    (h : pickMax key l = some a) : ∀ b ∈ l, key b ≤ key a := by
  induction l generalizing a with
  | nil => simp [pickMax] at h
  | cons b rest ih =>
    simp only [pickMax] at h
    split at h
    · rename_i hc
      have hr : rest = [] := by
        cases rest with
        | nil => rfl
        | cons x xs =>
          exfalso
          simp only [pickMax] at hc
          split at hc <;> try split at hc
          all_goals simp at hc
      simp_all
    · rename_i c hc
      intro x hx
      have hcg := ih hc
      split at h
      · rename_i hlt
        cases h
        rcases List.mem_cons.mp hx with rfl | hx
        · omega
        · exact hcg x hx
      · rename_i hge
        cases h
        rcases List.mem_cons.mp hx with rfl | hx
        · exact Nat.le_refl _
        · have := hcg x hx; omega

theorem pickMax_none {α : Type} (key : α → Nat) {l : List α} : pickMax key l = none ↔ l = [] := by
  cases l with
  | nil => simp [pickMax]
  | cons b rest =>
    simp only [pickMax, reduceCtorEq, iff_false]
    split <;> try split
    all_goals simp

/-- Every member before the one picked has a smaller key. -/
theorem pickMax_first {α : Type} (key : α → Nat) {l : List α} {a : α} (h : pickMax key l = some a) :
    ∃ before after, l = before ++ a :: after ∧ ∀ b ∈ before, key b < key a := by
  induction l generalizing a with
  | nil => simp [pickMax] at h
  | cons b rest ih =>
    simp only [pickMax] at h
    split at h
    · cases h
      exact ⟨[], rest, rfl, by simp⟩
    · rename_i c hc
      split at h
      · rename_i hlt
        cases h
        obtain ⟨before, after, hl, hb⟩ := ih hc
        refine ⟨b :: before, after, by rw [hl]; rfl, fun x hx => ?_⟩
        rcases List.mem_cons.mp hx with rfl | hx
        · exact hlt
        · exact hb x hx
      · cases h
        exact ⟨[], rest, rfl, by simp⟩

theorem State.lowestFree_some {s : State} {n : Fin 8} (h : s.lowestFree = some n) :
    s.mem.tags[n] = .free := by
  unfold State.lowestFree at h
  simpa using List.find?_some h

theorem State.choice_some {s : State} {e : Entry} (h : s.choice = some e) :
    e ∈ s.queue.entries ∧ s.eligible e = true := by
  have := pickMax_mem _ h
  exact List.mem_filter.mp this

/-! ### MEMORY_ANSWER -/

/-- The answer to an issued access reaches its owner, whatever its words (R74, R75). -/
theorem exec_memoryAnswer_access {s : State} {n : Fin 8} {o : EntryId} {p : Phase} {i : Issued}
    {e : Entry} (hr : s.resetAsserted = false) (hp : s.mem.port = .running)
    (ht : s.mem.tags[n] = .busy o p (some i)) (he : s.findEntry o = some e)
    (outcome : AnswerOutcome) (data : List Word) :
    exec (.memoryAnswer n outcome data) s =
      .next (s.answerAccess n e p outcome data).judge := by
  simp only [exec, execMemoryAnswer]
  rw [if_neg (by simp [hr, hp]), ht]
  simp only [he]

/-- MEMORY_ANSWER always gives a next state. -/
theorem exec_memoryAnswer_isNext (s : State) (n : Fin 8) (outcome : AnswerOutcome)
    (data : List Word) : ∃ t, exec (.memoryAnswer n outcome data) s = .next t := by
  simp only [exec, execMemoryAnswer]
  repeat' split
  all_goals exact ⟨_, rfl⟩

/-- With the access's number of words, the words are the answer's and no free value is used. -/
theorem State.answerWords_eq {n : Nat} {data : List Word} (h : data.length = n) (s : State) :
    s.answerWords n data = data ∧ s.countAnswer n data = s := ⟨if_pos h, if_pos h⟩

/-- The access has its number of words in either case. -/
theorem State.answerWords_length (n : Nat) (data : List Word) (s : State) :
    (s.answerWords n data).length = n := by
  unfold State.answerWords
  split
  · assumption
  · simp

/-- With another number of words, a free value is used. -/
theorem State.countAnswer_ne {n : Nat} {data : List Word} (h : data.length ≠ n) (s : State) :
    s.countAnswer n data = s.countFree := if_neg h

/-! ### Stops -/

/-- No command is refused. -/
theorem exec_not_refused (i : Instr) (s : State) (r : Refusal) : exec i s ≠ .refused r := by
  cases i <;>
    simp only [exec, execRequestTake, execGrant, execWriteBackIssue, execMemoryAnswer,
      execHoldTimerExpiry, execResponseTimerExpiry, execIntervalExpiry, execEndOfRecovery,
      execDrainTimerExpiry, execHardReset, execResetnRelease, execFrameStart, execFrameDiscard,
      execReplyLost, execUnknownCommand, execStatus, execQueueRead, execWindowWrite, execWindowRead,
      execCursorSet, execRotate, execClassWrite, execClassRead, execSettingsWrite,
      execSettingsRead, execMonitorRead, execMonitorWrite, execMonitorResult, execEventSetup,
      execEventTake, execEventRestore, execEventFloor, execEventClear, execEventPeek, execFlush,
      execDrain, execResume, execFaultClear, execDefaults, execFrameEnd, execEndOfReply, serve,
      ssnRises] <;>
    (repeat' split) <;> simp

end Sys2Proof.Machine
end

