-- ==== Sys2Proof/Laws/Serial.lean ====
section
/-! SUPPORT. What the edges of SCK can do: a whole byte slot is one byte arrival. -/

namespace Sys2Proof.Machine

open Sys2Proof

theorem msbFirst_length (b : Byte) : (msbFirst b).length = 8 := rfl

/-- The bits of a byte, most significant first, are that byte's. -/
theorem byteOfBits_msbFirst (b : Byte) : byteOfBits (msbFirst b) = b := by
  revert b; decide

theorem State.clockBits_append (l m : List Bool) (s t : State) (h : s.clockBits l = .next t) :
    s.clockBits (l ++ m) = t.clockBits m := by
  induction l generalizing s with
  | nil => cases h; rfl
  | cons b rest ih =>
    simp only [List.cons_append, State.clockBits] at h ⊢
    cases hb : s.clockBit b with
    | next u => rw [hb] at h; exact ih u h
    | fault f => rw [hb] at h; cases h
    | refused r => rw [hb] at h; cases h

/-- The link listens: SSN is low and a frame is in progress. -/
def State.listens (s : State) : Prop := s.service.ssnLow = true ∧ s.service.frame ≠ .idle

theorem State.clockBit_listens {s : State} (h : s.listens) (b : Bool) :
    s.clockBit b =
      if s.service.bits.length < 7 then .next (s.setBits (s.service.bits ++ [b]))
      else (s.setBits []).byteArrives (byteOfBits (s.service.bits ++ [b])) := by
  unfold State.clockBit
  rw [if_neg (by simp [h.1, h.2])]

/-- Fewer than eight bits only wait. -/
theorem State.clockBits_short {s : State} (h : s.listens) (l : List Bool)
    (hl : s.service.bits.length + l.length ≤ 7) :
    s.clockBits l = .next (s.setBits (s.service.bits ++ l)) := by
  induction l generalizing s with
  | nil => simp [State.clockBits, State.setBits]
  | cons b rest ih =>
    simp only [List.length_cons] at hl
    simp only [State.clockBits]
    rw [State.clockBit_listens h, if_pos (by omega)]
    simp only
    have h' : (s.setBits (s.service.bits ++ [b])).listens := h
    rw [ih h' (by simp [State.setBits]; omega)]
    simp [State.setBits]

/-- Eight bits are one byte arrival. -/
theorem State.clockBits_slot {s : State} (h : s.listens) (hb : s.service.bits = [])
    (slot : List Bool) (hl : slot.length = 8) :
    s.clockBits slot = s.byteArrives (byteOfBits slot) := by
  have hne : slot ≠ [] := by
    intro h0
    rw [h0] at hl
    cases hl
  obtain ⟨l, b, rfl⟩ : ∃ l b, slot = l ++ [b] :=
    ⟨slot.dropLast, slot.getLast hne, (List.dropLast_append_getLast hne).symm⟩
  simp only [List.length_append, List.length_cons, List.length_nil] at hl
  rw [State.clockBits_append l [b] s _ (State.clockBits_short h l (by rw [hb, List.length_nil]; omega)), hb]
  have h' : (s.setBits l).listens := h
  have hs : s.setBits [] = s := by
    cases s; rename_i sv; cases sv; simp only at hb; subst hb; rfl
  simp only [List.nil_append, State.clockBits]
  rw [State.clockBit_listens h', if_neg (by simp [State.setBits]; omega)]
  have : (s.setBits l).setBits [] = s := hs
  rw [this]
  simp only [State.setBits]
  cases s.byteArrives (byteOfBits (l ++ [b])) <;> rfl

end Sys2Proof.Machine
end

