-- ==== Sys2Proof/Tests/Slice0.lean ====
section
/-! SUPPORT. Tests: ill-formed commands refused; single steps against the worked examples and tables of the
spec (each names its source); frames written out byte by byte; and for every statement with
hypotheses the operands that meet them. -/

namespace Sys2Proof.Tests

open Sys2Proof Sys2Proof.Machine

/-! ## Small states -/

/-- The command completes and its next state passes. -/
def gives (r : Result) (p : State → Bool) : Bool :=
  match r with
  | .next t => p t
  | .fault _ => false
  | .refused _ => false

/-- The command stops with a fault. -/
def faults (r : Result) (f : Fault) : Bool :=
  match r with
  | .next _ => false
  | .fault g => decide (g = f)
  | .refused _ => false

/-- The state in a frame whose command has not been taken. -/
def inFrame (s : State) : State :=
  { s with service := { s.service with frame := .command, ssnLow := true } }

/-- Reset, in a frame. -/
def framed : State := inFrame State.reset

/-- A request; byte enables 1111 where Table 2-1 asks for them, data words of 1. -/
def req (r : Fin 8) (t : Fin 4) (d : Direction) (a : Word) (n : Nat) : Request :=
  { requester := r, tag := t, direction := d, address := a, length := n,
    byteEnables := if d = .write ∧ n = 1 then some 0b1111 else none,
    data := if d = .write then List.replicate n 1 else [] }

/-- A PASS or BITOP window. -/
def window (kind : WindowKind) (base size target : Word) (cls : Fin 8) (rp wp : Byte) :
    WindowRecord :=
  { WindowRecord.zeroed with
    valid := true, kind := kind, base := base, size := size, target := target, cls := cls,
    readPermit := rp, writePermit := wp }

/-- W9 of section 7.5, at start `start`. -/
def w9 (start : Nat) : WindowRecord :=
  { window .ring 0x60000000 0x800 0x00A00000 2 0xFF 0xFF with
    ringK := 8, ringN := 8, ringH := 1, ringT := 1, ringS := start }

/-- W8 of section 6.8, with a scan and an end policy. -/
def w8 (rows columns : Nat) (scan : Scan) (endPolicy : EndPolicy) : WindowRecord :=
  { window .aperture 0x50000010 16 0x00701000 2 0b110 0b110 with
    columns := columns, rows := rows, pitch := 0x100, scan := scan, endPolicy := endPolicy }

/-- The map of Table 1-4, with W2's watch on (section 5.7), W8 of section 6.8 and W9 of section 7.5. -/
def mapped : State :=
  { State.reset with
    windows :=
      ((((State.reset.windows.set 0 (window .pass 0x20008000 0x1000 0x00800000 3 2 2)).set 1
        (window .pass 0x20000000 0x10000 0x00400000 2 0b1111 1)).set 2
        { window .bitop 0x30000000 0x1000 0x00900000 5 0xFF 0xFF with watch := true }).set 8
        (w8 1 2 .rowMajor .stop)).set 9 (w9 1),
    cursors := State.reset.cursors.set 8 (some Cursor.start),
    settings := { Settings.reset with deny := true } }

/-- `mapped` with W8's cursor on its last cell. -/
def atEnd (exhausted : Bool) : State :=
  mapped.setCursor 8 (some { row := 0, column := 1, exhausted := exhausted })

/-- A WAITING entry admitted through the default route. -/
def entry (r : Requester) (t : Fin 4) (kind : EntryKind) (a : Word) (n : Nat) (cls : Fin 8) : Entry :=
  { requester := r, tag := t, upAddress := a,
    origin := match r with
      | .bus _ => .default
      | .monitor => .monitor,
    kind := kind, physical := a, length := n, cls := cls, stamp := 300, holdLimit := 0,
    holdTimer := 0, state := .waiting, dtag := none }

/-- A state with these entries, whose pairs are BUSY. -/
def queued (entries : List Entry) : State :=
  { State.reset with
    queue := { entries := entries, stamp := 304 },
    upstream :=
      { State.reset.upstream with
        tagBusy := Vector.ofFn fun r : Fin 8 => Vector.ofFn fun t : Fin 4 =>
          entries.any fun e => decide (e.requester = .bus r) && decide (e.tag = t) } }

/-- One class at a level, in a mode, with a credit. -/
def withClass (k level : Fin 8) (mode : ClassMode) (credit : Int) (s : State) : State :=
  s.setClass k { ClassRecord.reset with level := level, mode := mode, credit := credit }

/-- The four entries of Table 4-6. -/
def table46 : List Entry :=
  [entry (.bus 0) 0 .plainRead 0x1000 8 1,
   entry (.bus 1) 0 (.plainWrite none [1, 2, 3, 4]) 0x2000 4 5,
   entry (.bus 0) 1 .plainRead 0x3000 1 5, entry (.bus 2) 0 .plainRead 0x4000 2 5]

/-- The start of section 4.8. -/
def before48 : State := withClass 5 6 .free 0 (withClass 1 2 .free 0 (queued table46))

/-- An entry granted on D0. -/
def issuedEntry (e : Entry) : Entry := { e with state := e.kind.grantState, dtag := some 0 }

/-- One issued access on D0, `t` µs of its 100 µs gone. -/
def issuedOn (e : Entry) (t : Nat) : State :=
  ((queued [issuedEntry e]).setTag 0
    (.busy e.id e.kind.grantPhase (some { limit := 100, timer := t }))).takeSlot e 0

/-- E40 of section 5.7. -/
def e40 : Entry :=
  { entry (.bus 4) 0 (.bitRead .set 3) 0x00900008 1 5 with
    upAddress := 0x3000048C, origin := .window 2 }

/-- Section 5.7 after the fetch answer; `issued` says whether the write-back has gone out. -/
def writingBack (issued : Option Issued) : State :=
  let s := queued [{ e40 with state := .writingBack, dtag := some 0 }]
  { s with
    windows := mapped.windows,
    slots :=
      [{ owner := e40.id, dtag := 0, word := 0x00900008, op := .set, bit := 3,
         fetched := some { word := 0xF0, newWord := 0xF8, write := true } }],
    mem :=
      { s.mem with
        tags := s.mem.tags.set 0 (.busy e40.id .writeBack issued),
        writeBacks := if issued.isSome then [] else [0] } }

/-- Section 4.9: tags D0 to D6 QUARANTINED, E30 (requester 3) on D7 with its timer at 100 µs. -/
def before493 : State :=
  let e := { entry (.bus 3) 0 (.plainWrite (some 15) [1]) 0x1000 1 2 with
    state := .issued, dtag := some 7 }
  let s := queued [e]
  { s with
    mem :=
      { s.mem with
        tags := (Vector.replicate 8 TagRecord.quarantined).set 7
          (.busy e.id .write (some { limit := 100, timer := 100 })) } }

/-- Section 4.9 after step (3). -/
def stalled : State :=
  State.judge
    { State.reset with
      mem :=
        { State.reset.mem with
          port := .stalled, tags := Vector.replicate 8 TagRecord.quarantined } }

/-- Section 4.9, recovery after `t` µs. -/
def recovering (t : Nat) : State :=
  { State.reset with
    mem :=
      { State.reset.mem with
        port := .recovering, mrstn := true, recoveryTimer := t,
        tags := Vector.replicate 8 TagRecord.quarantined } }

/-- A drain of requesters 2 and 5 with one entry of requester 5 (section 9.5). -/
def drainingFor (t : Nat) : State :=
  { queued [entry (.bus 5) 0 .plainRead 0x1000 1 6] with
    drain := { state := .draining, mask := 0b100100, limit := 2, timer := t } }

/-- Drain control alone in a state. -/
def drainIn (d : DrainState) (mask : Byte) (s : State) : State :=
  { s with drain := { s.drain with state := d, mask := mask } }

/-- Section 8.11 before step (5). -/
def before811 : State :=
  let detail : Detail := { Detail.empty with requester := some (.bus 3), code := some (.hold .level) }
  let s := queued (List.replicate 20 (entry (.bus 0) 0 .plainRead 0 1 0))
  State.judge
    (((s.setSource .holdTimeout { level := 3, pending := true, detail := detail, count := 2 }).setSource
        .interval { level := 0, pending := true, detail := Detail.empty, count := 1 }).setSource
      .queueHigh { level := 3, pending := false, detail := Detail.empty, count := 0 })

/-! ## Commands that cannot be presented -/

theorem test_wf_misaligned_request_refused :
    (Instr.requestTake (some (req 0 0 .read 0x1002 1))).wellFormed = false := by decide

theorem test_wf_empty_request_refused :
    (Instr.requestTake (some (req 0 0 .read 0x1000 0))).wellFormed = false := by decide

theorem test_wf_nine_words_refused :
    (Instr.requestTake (some (req 0 0 .read 0x1000 9))).wellFormed = false := by decide

theorem test_wf_missing_byte_enables_refused :
    (Instr.requestTake (some { req 0 0 .write 0x1000 1 with byteEnables := none })).wellFormed =
      false := by decide

theorem test_wf_byte_enables_on_read_refused :
    (Instr.requestTake (some { req 0 0 .read 0x1000 1 with byteEnables := some 1 })).wellFormed =
      false := by decide

theorem test_wf_wrong_data_count_refused :
    (Instr.requestTake (some { req 0 0 .write 0x1000 2 with data := [1] })).wellFormed = false := by
  decide

theorem test_wf_nine_answer_words_refused :
    (Instr.memoryAnswer 0 .ok (List.replicate 9 0)).wellFormed = false := by decide

theorem test_wf_whole_reply_not_lost : (Instr.replyLost 41).wellFormed = false := by decide

theorem test_wf_known_code_refused : (Instr.unknownCommand 0x10).wellFormed = false := by decide

theorem test_wf_longest_forms_accepted :
    (Instr.requestTake (some (req 7 3 .write 0xFFFFFFE0 8))).wellFormed = true ∧
      (Instr.memoryAnswer 7 .ok (List.replicate 8 0)).wellFormed = true ∧
      (Instr.replyLost 40).wellFormed = true ∧ (Instr.unknownCommand 0xFF).wellFormed = true := by
  decide

/-! ## Frames, byte by byte (Tables 10-5 and 10-12) -/

theorem test_frame_rotate : decodeFrame [0x23, 0x09, 0x01, 0x03] = some (.rotate 9 1 3) := by decide

theorem test_frame_monitorWrite :
    decodeFrame [0x41, 0x00, 0x90, 0x00, 0x08, 0x12, 0x34, 0x56, 0x78] =
      some (.monitorWrite 0x00900008 0x12345678) := by decide

theorem test_frame_classWrite :
    decodeFrame [0x30, 0x02, 0x03, 0x01, 0x01, 0x00, 0x00, 0x40] =
      some (.classWrite 2 3 1 256 64) := by decide

theorem test_frame_discarded_before_last_argument : decodeFrame [0x60] = none := by decide

theorem test_frame_idle_line_is_unknown :
    decodeFrame [0x00, 0x00] = some (.unknownCommand 0x00) := by decide

/-! ## Single steps -/

/-- Table 1-5, row (4). -/
theorem test_requestTake_pass :
    gives (exec (.requestTake (some (req 0 1 .read 0x20007FF8 4))) mapped) (fun t =>
      decide (t.queue.entries.map (fun e => (e.kind, e.physical, e.cls, e.origin)) =
        [(.plainRead, 0x00407FF8, 2, .window 1)]) && t.tagIsBusy 0 1) = true := by decide

/-- Table 1-5, row (7): "The event detail names DEFAULT and class 0". -/
theorem test_requestTake_split :
    gives (exec (.requestTake (some (req 3 0 .read 0x2FFFFFF8 4))) mapped) (fun t =>
      decide (t.upstream.responses.map Response.outcome = [.split]) &&
        decide ((t.source .refused).detail =
          { requester := some (.bus 3), address := 0x2FFFFFF8, window := some .default,
            cls := some 0, code := some .split })) = true := by decide

/-- Section 4.8, step (1). -/
theorem test_grant_highest_level :
    gives (exec (.grant true) before48) (fun t =>
      decide (t.mem.requests.map (fun q => (q.tag, q.address, q.direction)) =
        [(0, 0x2000, .write)])) = true := by decide

/-- Section 5.7, step (1): a slot is taken, used_now rises by 2. -/
theorem test_grant_bit_operation :
    gives (exec (.grant true) (withClass 5 6 .free 0 (queued [e40]))) (fun t =>
      decide (t.slots.length = 1) && decide (t.classTable.classes[5].usedNow = 2) &&
        decide (t.queue.entries.map Entry.state = [.fetching])) = true := by decide

/-- Section 5.7, step (4). -/
theorem test_writeBackIssue :
    gives (exec (.writeBackIssue true) (writingBack none)) (fun t =>
      decide (t.mem.requests.map (fun q => (q.tag, q.address, q.data)) =
        [(0, 0x00900008, [0xF8])]) && t.mem.writeBacks.isEmpty) = true := by decide

/-- Section 5.7, step (5): the response word, and WATCH with code BIT. -/
theorem test_memoryAnswer_write_back :
    gives (exec (.memoryAnswer 0 .ok []) (writingBack (some { limit := 100, timer := 3 }))) (fun t =>
      decide (t.upstream.responses.map Response.data = [[2]]) && t.slots.isEmpty &&
        decide ((t.source .watch).detail.code = some .bit) &&
        decide ((t.source .watch).detail.address = 0x3000048C)) = true := by decide

/-- Section 4.9, step (4): a late answer; the port stays STALLED. -/
theorem test_memoryAnswer_late :
    gives (exec (.memoryAnswer 3 .ok []) stalled) (fun t =>
      decide (t.mem.tags[3] = .free) && decide (t.mem.port = .stalled) &&
        decide ((t.source .memError).pending = false)) = true := by decide

/-- R74: an OK answer to a READ of eight words that carries one word completes the owner with OK and eight
words, and frees the tag. -/
theorem test_memoryAnswer_other_word_count :
    gives (exec (.memoryAnswer 0 .ok [7]) (issuedOn (entry (.bus 0) 0 .plainRead 0x1000 8 1) 9))
      (fun t => decide (t.upstream.responses.map (fun r => (r.outcome, r.data.length)) = [(.ok, 8)]) &&
        decide (t.mem.tags[0] = .free) && t.queue.entries.isEmpty) = true := by decide

/-- Section 2.13, step (4). -/
theorem test_holdTimerExpiry :
    gives (exec (.holdTimerExpiry (.bus 3) 0) (withClass 6 0 .free 0 (queued
        [{ entry (.bus 3) 0 .plainRead 0x00600000 1 6 with holdLimit := 200, holdTimer := 200 }])))
      (fun t => decide (t.upstream.responses.map Response.outcome = [.holdTimeout]) &&
        decide ((t.source .holdTimeout).detail.code = some (.hold .level))) = true := by decide

/-- Section 4.9, step (3). -/
theorem test_responseTimerExpiry :
    gives (exec (.responseTimerExpiry 7) before493) (fun t =>
      decide (t.mem.port = .stalled) && (t.source .fault).pending && t.events.irqn &&
        decide ((t.source .memTimeout).detail.code = some (.phase .write))) = true := by decide

/-- Table 3-4, (7): "Credit becomes 32 + the smaller of −2 and 16, which is 30". -/
theorem test_intervalExpiry :
    gives (exec .intervalExpiry
        (State.setClass 1
          { level := 4, mode := .enforce, budget := 32, carry := 16, credit := -2, usedNow := 34,
            usedLast := 0, overrun := false }
          { State.reset with classTable := { State.reset.classTable with timer := 1000 } }))
      (fun t => decide (t.classTable.classes[1].credit = 30) &&
        decide (t.classTable.classes[1].usedLast = 34) && (t.source .interval).pending) = true := by
  decide

/-- Section 4.9, step (8). -/
theorem test_endOfRecovery :
    gives (exec .endOfRecovery (recovering 10)) (fun t =>
      decide (t.mem.port = .running) && decide (t.countTags .free = 8) && !t.mem.mrstn) = true := by
  decide

/-- Section 9.5, step (4). -/
theorem test_drainTimerExpiry :
    gives (exec .drainTimerExpiry (drainingFor 2000)) (fun t =>
      decide (t.drain.state = .stuck) && (t.source .drain).pending) = true := by decide

/-- R45: "no response is sent". -/
theorem test_hardReset :
    gives (exec .hardReset before48) (fun t =>
      t.queue.entries.isEmpty && t.upstream.responses.isEmpty && t.mem.mrstn && !t.tagIsBusy 0 0) =
      true := by decide

/-- R83: "at its release MRSTN is released". -/
theorem test_resetnRelease :
    gives (exec .resetnRelease State.reset.asserted) (fun t => decide (t = State.reset)) = true := by
  decide

theorem test_frameStart :
    gives (exec .frameStart State.reset) (fun t => decide (t.service.frame = .command)) = true := by
  decide

theorem test_frameDiscard :
    gives (exec .frameDiscard framed) (fun t => decide (t = State.reset)) = true := by decide

/-- R165: of a reply of three bytes one was sent. -/
theorem test_replyLost :
    gives (exec (.replyLost 1) (framed.replying [1, 2, 3])) (fun t =>
      decide (t.service.shifted = [1]) && decide (t.service.frame = .idle)) = true := by decide

theorem test_endOfReply :
    gives (exec .endOfReply (framed.replying [1, 2, 3])) (fun t =>
      decide (t.service.shifted = [1, 2, 3]) && decide (t.service.frame = .trail) &&
        decide (t.sdo = some 0xFF)) = true := by decide

theorem test_frameEnd :
    gives (exec .frameEnd { framed with service := { framed.service with frame := .trail } })
      (fun t => decide (t = State.reset)) = true := by decide

/-- R163: "most significant bit first". The code of ROTATE, 23h, and the index W9, 09h. -/
def rotateBits : List Bool :=
  [false, false, true, false, false, false, true, true] ++
    [false, false, false, false, true, false, false, true]

/-- Figure 10-1, slots 1 and 2: the code and the index are stored, SDO carries 00h. -/
theorem test_clockBits_stores :
    gives ((inFrame mapped).clockBits rotateBits) (fun t =>
      decide (t.service.stored = [0x23, 0x09]) && decide (t.sdo = some 0x00)) = true := by decide

/-- Figure 10-1, slots 3 and 4: at the last bit ROTATE is taken and SDO carries 01h, DONE. -/
theorem test_clockBits_takes :
    gives ((inFrame mapped).clockBits (rotateBits ++ msbFirst 0x01 ++ msbFirst 0x01)) (fun t =>
      decide (t.windows[9] = w9 2) && decide (t.sdo = some 0x01)) = true := by decide

/-- Figure 10-1, slots 5 and 6: SDO carries 01h and then the new start; after it the state is TRAIL. -/
theorem test_clockBits_reply :
    gives ((framed.replying [0x01, 0x02]).clockBits (msbFirst 0xAA)) (fun t =>
      decide (t.sdo = some 0x02) && decide (t.sdoBit = some false)) = true ∧
    gives ((framed.replying [0x02]).clockBits (msbFirst 0xAA)) (fun t =>
      decide (t.service.frame = .trail) && decide (t.service.shifted = [0x02])) = true := by decide

theorem test_unknownCommand :
    gives (exec (.unknownCommand 0xFF) framed) (fun t => decide (t.service.reply = [0x04])) =
      true := by decide

/-- Table 10-10 at reset. -/
theorem test_status :
    gives (exec .status framed) (fun t =>
      decide (t.service.reply = [1, 0, 8, 0, 0, 0, 0, 0, 0, 0, 0, 0, 0, 0])) = true := by decide

/-- Table 10-11, the WAITING E42 of section 5.7 alone in the queue: hold reason PORT, no tag. -/
theorem test_queueRead :
    gives (exec (.queueRead 0) (inFrame (queued
        [{ e40 with
           requester := .bus 5, tag := 1, kind := .bitRead .test 4, upAddress := 0x30000410,
           stamp := 412 }]))) (fun t =>
      decide (t.service.reply =
        [1, 1, 5, 1, 2, 2, 0, 5, 0xFF, 5, 1, 0, 4, 0x01, 0x9C, 0, 0, 0x30, 0x00, 0x04, 0x10, 0x00,
         0x90, 0x00, 0x08])) = true := by decide

/-- The bytes of W9 of section 7.5 (Table 10-6). -/
def w9Bytes (start : Byte) : WindowBytes :=
  { flags := 1, kind := 1, cls := 2, readPermit := 0xFF, writePermit := 0xFF, base := 0x60000000,
    size := 0x800, target := 0x00A00000, ringK := 8, ringN := 8, ringH := 1, ringT := 1,
    ringS := start, columns := 0, rows := 0, pitch := 0, scan := 9, endPolicy := 9 }

/-- Section 7.5: "WINDOW-WRITE accepts S from 0 to 5"; bytes of other kinds are set aside (R171). -/
theorem test_windowWrite_ring :
    gives (exec (.windowWrite 9 (w9Bytes 5)) framed) (fun t =>
      decide (t.windows[9] = w9 5) && decide (t.service.reply = [1])) = true := by decide

theorem test_windowWrite_start_too_large :
    gives (exec (.windowWrite 9 (w9Bytes 6)) framed) (fun t =>
      decide (t.windows = State.reset.windows) && decide (t.service.reply = [3])) = true := by decide

/-- Table 10-6, W0 of Table 1-4. -/
theorem test_windowRead :
    gives (exec (.windowRead 0) (inFrame mapped)) (fun t =>
      decide (t.service.reply.take 18 =
        [1, 1, 0, 3, 2, 2, 0x20, 0x00, 0x80, 0x00, 0, 0, 0x10, 0, 0x00, 0x80, 0, 0]) &&
        decide (t.service.reply.length = 41)) = true := by decide

/-- R117: the cursor becomes READY, and APERTURE_END stops being pending (R116). -/
theorem test_cursorSet :
    gives (exec (.cursorSet 8 0 1) (inFrame (atEnd true).judge)) (fun t =>
      decide (t.cursors[8] = some { row := 0, column := 1, exhausted := false }) &&
        decide ((t.source .apertureEnd).pending = false)) = true := by decide

/-- Table 7-5: ADVANCE 255 from S = 2 gives 5. -/
theorem test_rotate_advance :
    gives (exec (.rotate 9 1 255) (inFrame (mapped.setWindow 9 (w9 2)))) (fun t =>
      decide (t.windows[9] = w9 5) && decide (t.service.reply = [1, 5])) = true := by decide

/-- Table 7-5: ABSOLUTE 6 is RANGE. -/
theorem test_rotate_absolute_out_of_range :
    gives (exec (.rotate 9 0 6) (inFrame mapped)) (fun t =>
      decide (t.windows[9] = w9 1) && decide (t.service.reply = [3])) = true := by decide

/-- Table 3-4, (9). -/
theorem test_classWrite_clips :
    gives (exec (.classWrite 1 4 1 16 4) (withClass 1 4 .enforce 29 framed)) (fun t =>
      decide (t.classTable.classes[1].credit = 20)) = true := by decide

/-- Table 10-7; Table 3-4, (6): credit −2. -/
theorem test_classRead :
    gives (exec (.classRead 1) (State.setClass 1
        { level := 4, mode := .enforce, budget := 32, carry := 16, credit := -2, usedNow := 34,
          usedLast := 0, overrun := false } framed)) (fun t =>
      decide (t.service.reply =
        [1, 4, 1, 0, 32, 0, 16, 0xFF, 0xFF, 0xFF, 0xFE, 0, 34, 0, 0, 0])) = true := by decide

/-- Section 11.1, step (3). -/
theorem test_settingsWrite :
    gives (exec (.settingsWrite
        { interval := 500, holdLimit := 2000, responseLimit := 100, drainLimit := 10,
          threshold := 20, monitorClass := 7, defaultClass := 0, flags := 1 }) framed) (fun t =>
      decide (t.settings =
        { interval := 500, holdLimit := 2000, responseLimit := 100, drainLimit := 10,
          threshold := 20, monitorClass := 7, defaultClass := 0, deny := true }) &&
        decide (t.classTable.length = 1000)) = true := by decide

/-- Table 10-4's reset values in the layout of Table 10-8. -/
theorem test_settingsRead :
    gives (exec .settingsRead framed) (fun t =>
      decide (t.service.reply = [1, 0x03, 0xE8, 0, 0, 0, 100, 10, 20, 0, 0, 0])) = true := by decide

/-- Section 10.8, step (1): "The reply is DONE, 01h 9Ch". -/
theorem test_monitorRead :
    gives (exec (.monitorRead 0x00900008)
        { framed with queue := { entries := [], stamp := 412 } }) (fun t =>
      decide (t.service.reply = [1, 0x01, 0x9C]) && decide (t.service.monitor.state = .busy)) =
      true := by decide

/-- R178, step 1. -/
theorem test_monitorWrite_misaligned :
    gives (exec (.monitorWrite 0x00900009 0) framed) (fun t =>
      decide (t.service.reply = [3]) && t.queue.entries.isEmpty) = true := by decide

/-- Table 10-14, R180. -/
theorem test_monitorResult :
    gives (exec .monitorResult
        (framed.setMonitor { state := .done, outcome := some .memTimeout, data := 0 })) (fun t =>
      decide (t.service.reply = [1, 2, 9, 0, 0, 0, 0]) &&
        decide (t.service.monitor = MonitorRecord.reset)) = true := by decide

/-- R137. -/
theorem test_eventSetup :
    gives (exec (.eventSetup 12 7) framed) (fun t => decide ((t.source .monitorDone).level = 7)) =
      true := by decide

theorem test_eventSetup_fault_refused :
    gives (exec (.eventSetup 0 3) framed) (fun t =>
      decide (t.service.reply = [3]) && decide ((t.source .fault).level = 8)) = true := by decide

/-- Section 8.11, step (5). -/
theorem test_eventTake :
    gives (exec .eventTake (inFrame before811)) (fun t =>
      decide (t.service.reply.take 6 = [1, 5, 3, 2, 0, 3]) && decide (t.events.floor = 3) &&
        decide (t.events.stack = [0]) && !t.events.irqn) = true := by decide

/-- Section 8.11, step (9). -/
theorem test_eventRestore :
    gives (exec .eventRestore (inFrame
        { before811 with events := { before811.events with floor := 3, stack := [0] } })) (fun t =>
      decide (t.events.floor = 0) && t.events.stack.isEmpty && t.events.irqn &&
        decide (t.service.reply = [1, 0])) = true := by decide

/-- R146. -/
theorem test_eventFloor_out_of_range :
    gives (exec (.eventFloor 8) framed) (fun t => decide (t.service.reply = [3])) = true := by decide

/-- Section 8.11, step (13): INTERVAL is vector 11. -/
theorem test_eventClear :
    gives (exec (.eventClear 0x0800) (inFrame before811)) (fun t =>
      !(t.source .interval).pending && (t.source .holdTimeout).pending) = true := by decide

/-- Table 10-12, R148: pending set of vectors 5, 10 and 11. -/
theorem test_eventPeek :
    gives (exec .eventPeek (inFrame before811)) (fun t =>
      decide (t.service.reply = [1, 0x0C, 0x20, 0, 0])) = true := by decide

/-- Section 2.13, the FLUSH of requester 3: count 2, the older entry first. -/
theorem test_flush :
    gives (exec (.flush 0b1000) (inFrame (queued
        [entry (.bus 3) 0 .plainRead 0x00600000 1 6,
         entry (.bus 3) 1 (.plainWrite (some 15) [1]) 0x00600040 1 6]))) (fun t =>
      decide (t.service.reply = [1, 2]) && t.queue.entries.isEmpty &&
        decide (t.upstream.responses.map Response.tag = [0, 1])) = true := by decide

/-- Section 11.1, step (2). -/
theorem test_drain :
    gives (exec (.drain 0xFF) framed) (fun t =>
      decide (t.service.reply = [1, 2]) && (t.source .drain).pending) = true := by decide

/-- Section 11.1, step (7). -/
theorem test_resume :
    gives (exec .resume (drainIn .drained 0xFF framed).judge) (fun t =>
      decide (t.service.reply = [1, 2]) && decide (t.drain.mask = 0) &&
        !(t.source .drain).pending) = true := by decide

/-- Section 4.9, step (6). -/
theorem test_faultClear :
    gives (exec .faultClear (inFrame stalled)) (fun t =>
      decide (t.mem.port = .recovering) && t.mem.mrstn && !(t.source .fault).pending) = true := by
  decide

/-- R159: BUSY unless the whole bus side is drained. -/
theorem test_defaults :
    gives (exec .defaults (drainIn .drained 0xFF (inFrame mapped))) (fun t =>
      decide (t.windows = State.reset.windows) && decide (t.service.reply = [1])) = true ∧
      gives (exec .defaults (drainIn .drained 0x7F (inFrame mapped))) (fun t =>
        decide (t.windows = mapped.windows) && decide (t.service.reply = [2])) = true := by decide

/-! ## Witnesses: operands that meet the hypotheses of each statement, clause by clause -/

/-- The channel's first request is taken and decoded. -/
theorem decodes (s : State) (r : Request) (h1 : r.wf = true)
    (h2 : s.resetAsserted = false ∧ s.queue.entries.length < 24) (h3 : s.upstream.offered = [])
    (h4 : s.tagIsBusy r.requester r.tag = false) (h5 : s.drain.state = .none) :
    s.Decodes (some r) r [] :=
  ⟨⟨h1, h2, by rw [h3]; rfl⟩, h4, .inl h5⟩

theorem witness_EmptyQueueStepIsTheTimeBase :
    (State.reset.pending = [] ∧ State.reset.due = []) ∧
    (before493.pending = [] ∧ before493.due ≠ []) ∧ State.reset.asserted.resetAsserted = true ∧
    ∃ o p x, before493.resetAsserted = false ∧ before493.mem.tags[7] = .busy o p (some x) :=
  ⟨by decide, by decide, by decide, _, _, _, rfl, rfl⟩

theorem witness_ExpiryCommandsLetTimeRunOn :
    isExpiry .intervalExpiry = true ∧ State.reset.expiryLeft .endOfRecovery = none ∧
    (State.reset.expiryLeft .intervalExpiry = some 1000 ∧
      ∀ t ∈ State.reset.timesLeft, 1000 ≤ t) ∧
    (before493.expiryLeft .intervalExpiry = some 1000 ∧ ∃ t ∈ before493.timesLeft, t < 1000) := by
  decide

theorem witness_HardResetAndRelease :
    State.reset.asserted.resetAsserted = true ∧ State.reset.resetAsserted = false := by decide

theorem witness_RequestsWaitWhileNotReady :
    State.upReady (queued (List.replicate 24 (entry (.bus 0) 0 .plainRead 0 1 0))) = false ∧
    State.upReady (queued (List.replicate 23 (entry (.bus 0) 0 .plainRead 0 1 0))) = true ∧
    (some (req 0 0 .read 0x1000 1)).all Request.wf = true ∧
    State.reset.upstream.offered ++ (none : Option Request).toList = [] := by decide

theorem witness_BusyTagAndDrainAreCheckedFirst :
    (before48.Takes (some (req 0 0 .read 0x1000 8)) (req 0 0 .read 0x1000 8) [] ∧
      before48.tagIsBusy 0 0 = true) ∧
    ((drainIn .drained 0x80 State.reset).Takes (some (req 7 3 .read 0x1000 1))
        (req 7 3 .read 0x1000 1) [] ∧
      State.reset.tagIsBusy 7 3 = false ∧ (0x80 : Byte).getLsbD 7 = true) :=
  ⟨⟨⟨by decide, by decide, rfl⟩, by decide⟩, ⟨by decide, by decide, rfl⟩, by decide, by decide⟩

/-- Table 1-5, rows (1), (2), (5), (6) and (7); the top of the address space; and with deny = no. -/
theorem witness_DecodeChecksInOrder :
    mapped.Reaches (req 0 0 .read 0x20000100 4) 1 ∧
    (mapped.lookup 0x20008FF8 = some 0 ∧ mapped.decode (req 1 0 .read 0x20008FF8 4) =
      .refuse .split ∧ lastWord (req 1 0 .read 0x20008FF8 3) = 0x20009000) ∧
    (mapped.lookup 0x20000200 = some 1 ∧
      ((mapped.windows[1]).permit .write).getLsbD 2 = false) ∧
    (mapped.lookup 0x2FFFFFF8 = none ∧ (mapped.windows[2]).contains (0x2FFFFFF8 + 4 * 2) = true) ∧
    (mapped.lookup 0xFFFFFFF8 = none ∧ 2 ^ 32 < 0xFFFFFFF8 + 4 * 3) ∧
    mapped.decode (req 3 0 .read 0xFFFFFFF8 2) = .refuse .denied ∧
    State.reset.decode (req 3 0 .read 0xFFFFFFF8 2) = .plain 0xFFFFFFF8 :=
  ⟨⟨by decide, by decide, by decide⟩, by decide, by decide, by decide, by decide, by decide,
    by decide⟩

/-- Section 7.5 with S = 1: rows (1) to (4), and the last rotating block. -/
theorem witness_RingRequestsAreTranslated :
    mapped.Reaches (req 0 0 .read 0x60000310 2) 9 ∧ mapped.windows[9].kind = .ring ∧
    mapped.decode (req 0 0 .read 0x60000310 2) = .plain 0x00A00410 ∧
    mapped.decode (req 0 0 .read 0x600003F8 4) = .refuse .split ∧
    mapped.decode (req 0 0 .write 0x60000700 8) = .plain 0x00A00700 ∧
    mapped.decode (req 0 0 .write 0x60000000 1) = .plain 0x00A00000 ∧
    mapped.decode (req 0 0 .read 0x600006F8 2) = .plain 0x00A001F8 :=
  ⟨⟨by decide, by decide, by decide⟩, by decide, by decide, by decide, by decide, by decide,
    by decide⟩

/-- W9 at S = 0, and at S = 5, its greatest start. -/
theorem witness_RingMapIsOneToOne :
    (w9 0).Legal ∧ (w9 5).Legal ∧ (w9 0).valid = true ∧ (w9 0).kind = .ring ∧ (w9 0).ringS = 0 :=
  ⟨by constructor <;> decide, by constructor <;> decide, by decide, by decide, by decide⟩

/-- W8 of section 6.8 READY and EXHAUSTED, every offset; and cursors at each edge of a region. -/
theorem witness_ApertureRequestsAreDecoded :
    mapped.Reaches (req 2 0 .write 0x50000010 1) 8 ∧ mapped.Reaches (req 2 0 .read 0x5000001C 1) 8 ∧
    mapped.Reaches (req 2 0 .read 0x50000010 2) 8 ∧
    (mapped.cursorOf 8).exhausted = false ∧ ((atEnd true).cursorOf 8).exhausted = true ∧
    mapped.decode (req 2 0 .read 0x50000014 1) = .claim 8 0x00701000 false ∧
    mapped.decode (req 2 0 .read 0x50000018 1) = .position 8 ∧
    mapped.decode (req 2 0 .write 0x50000018 1) = .rewind 8 ∧
    (∀ (row column : Fin 2) (scan : Scan) (endPolicy : EndPolicy),
      Cursor.Inside { row := row, column := column, exhausted := false }
        (w8 2 2 scan endPolicy)) :=
  ⟨⟨by decide, by decide, by decide⟩, ⟨by decide, by decide, by decide⟩,
    ⟨by decide, by decide, by decide⟩, by decide, by decide, by decide, by decide, by decide,
    fun row column _ _ => ⟨row.isLt, column.isLt, nofun⟩⟩

/-- Table 1-5, rows (8) and (9); the last alias of the smallest window. -/
theorem witness_BitopRequestsAreMapped :
    mapped.Reaches (req 4 0 .read 0x30000204 1) 2 ∧ mapped.Reaches (req 4 0 .write 0x30000000 2) 2 ∧
    mapped.windows[2].kind = .bitop ∧ mapped.decode (req 4 0 .read 0x30000204 1) =
      .bit 0x00900004 .test 1 ∧
    (508 < 512 ∧ aliasOp 508 = .change ∧ aliasBit 508 = 31) :=
  ⟨⟨by decide, by decide, by decide⟩, ⟨by decide, by decide, by decide⟩, by decide, by decide,
    by decide⟩

theorem witness_RefusedRequestsAreAnsweredAtOnce :
    mapped.Decodes (some (req 3 0 .read 0x2FFFFFF8 4)) (req 3 0 .read 0x2FFFFFF8 4) [] ∧
    mapped.decode (req 3 0 .read 0x2FFFFFF8 4) = .refuse .split ∧
    mapped.decode (req 4 0 .write 0x30000000 2) = .refuse .unsupported ∧
    (mapped.decode (req 2 0 .write 0x20000200 1) = .refuse .denied ∧
      (mapped.route (req 2 0 .write 0x20000200 1)).1 ≠ .default) ∧
    (mapped.decode (req 3 0 .read 0x10000000 1) = .refuse .denied ∧
      (mapped.route (req 3 0 .read 0x10000000 1)).1 = .default) ∧
    ((atEnd true).Decodes (some (req 2 2 .write 0x50000010 1)) (req 2 2 .write 0x50000010 1) [] ∧
      (atEnd true).decode (req 2 2 .write 0x50000010 1) = .refuse .apertureEnd) :=
  ⟨decodes _ _ (by decide) (by decide) rfl (by decide) rfl, by decide, by decide, by decide,
    by decide, decodes _ _ (by decide) (by decide) rfl (by decide) rfl, by decide⟩

theorem witness_AdmittedRequestsJoinTheQueue :
    mapped.Decodes (some (req 0 0 .read 0x20000100 4)) (req 0 0 .read 0x20000100 4) [] ∧
    mapped.decode (req 0 0 .read 0x20000100 4) = .plain 0x00400100 ∧
    mapped.decode (req 4 0 .read 0x30000204 1) = .bit 0x00900004 .test 1 ∧
    mapped.decode (req 2 0 .read 0x50000014 1) = .claim 8 0x00701000 false ∧
    mapped.decode (req 2 0 .write 0x50000014 1) = .claim 8 0x00701000 true :=
  ⟨decodes _ _ (by decide) (by decide) rfl (by decide) rfl, by decide, by decide, by decide,
    by decide⟩

theorem witness_PositionAndRewindAreAnsweredAtDecode :
    (atEnd true).Decodes (some (req 1 0 .read 0x50000018 1)) (req 1 0 .read 0x50000018 1) [] ∧
    (atEnd true).decode (req 1 0 .read 0x50000018 1) = .position 8 ∧
    (atEnd true).decode (req 2 0 .write 0x50000018 1) = .rewind 8 :=
  ⟨decodes _ _ (by decide) (by decide) rfl (by decide) rfl, by decide, by decide⟩

/-- Table 4-6 with memory not ready: E20 is held for PORT and E22 for ORDER; the other reasons follow. -/
theorem witness_EligibilityIsTheSixConditions :
    (∃ after, before48.queue.entries = [] ++ entry (.bus 0) 0 .plainRead 0x1000 8 1 :: after) ∧
    (before48.queue.entries.map fun e => before48.holdReason e) = [.port, .port, .order, .port] ∧
    (let es := [entry (.bus 1) 0 .plainRead 0x1000 2 0, entry (.bus 2) 0 .plainRead 0x1004 1 0]
     (queued es).holdReason (entry (.bus 2) 0 .plainRead 0x1004 1 0) = .hazard) ∧
    (withClass 1 0 .free 0 before48).holdReason (entry (.bus 0) 0 .plainRead 0x1000 8 1) = .level ∧
    (withClass 1 2 .enforce 0 before48).holdReason (entry (.bus 0) 0 .plainRead 0x1000 8 1) =
      .credit ∧
    State.holdReason
      { queued [e40] with
        slots := List.replicate 2
          { owner := e40.id, dtag := 0, word := 0, op := .set, bit := 0, fetched := none } } e40 =
      .slot := by
  exact ⟨⟨_, rfl⟩, by decide, by decide, by decide, by decide, by decide⟩

/-- Section 4.8, step (1): E21. -/
theorem witness_GrantIssuesHighestLevelOldest :
    before48.resetAsserted = false ∧ before48.mem.writeBacks = [] ∧
    before48.queue.entries = [entry (.bus 0) 0 .plainRead 0x1000 8 1] ++
      entry (.bus 1) 0 (.plainWrite none [1, 2, 3, 4]) 0x2000 4 5 ::
      [entry (.bus 0) 1 .plainRead 0x3000 1 5, entry (.bus 2) 0 .plainRead 0x4000 2 5] ∧
    (before48.queue.entries.map Entry.id).Nodup ∧
    (before48.queue.entries.map fun e => (before48.sampleReady true).eligible e) =
      [true, true, false, true] ∧
    before48.classTable.classes[1].level < before48.classTable.classes[5].level ∧
    before48.mem.tags[0] = .free := by decide

theorem witness_NoGrantWhenAConditionFails :
    stalled.mem.port ≠ .running ∧ (∀ n : Fin 8, stalled.mem.tags[n] ≠ .free) ∧
    (writingBack none).mem.writeBacks ≠ [] ∧ State.reset.asserted.resetAsserted = true ∧
    (withClass 5 0 .free 0 (queued [e40])).eligible e40 = false := by decide

theorem witness_HoldTimerExpiryCompletesTheEntry :
    (let e := { entry (.bus 3) 0 .plainRead 0x00600000 1 6 with holdLimit := 1, holdTimer := 1 }
     (queued [e]).findEntry { requester := .bus 3, tag := 0 } = some e ∧ e.state = .waiting ∧
       e.holdLimit ≠ 0 ∧ e.holdLimit ≤ e.holdTimer) ∧
    (∀ e ∈ before48.queue.entries, e.state ≠ .waiting ∨ e.holdLimit = 0) := by decide

/-- A bus entry that wrote through the watched W2 with a drain of its requester; the monitor entry. -/
theorem witness_CompletionDeliversTheOutcome :
    (let s := drainIn .stuck 0b10000 (writingBack (some { limit := 100, timer := 0 }))
     e40.requester = .bus 4 ∧ e40.origin = .window 2 ∧ s.windows[2].watch = true ∧
       inMask s.drain.mask e40.requester = true ∧
       (s.complete e40 .ok [2] true).queue.entries = []) ∧
    (entry .monitor 0 .plainRead 0x1000 1 0).requester = .monitor ∧
    (drainingFor 0).drain.state = .draining := by decide

theorem queueLegal_drainingFor : (inFrame (drainingFor 0)).QueueLegal where
  depth := by decide
  names := by decide
  entry e he := by
    have : e = entry (.bus 5) 0 .plainRead 0x1000 1 6 := by
      simpa [inFrame, drainingFor, queued] using he
    subst this
    exact ⟨by decide, by decide, by decide⟩
  tagBusy := by decide
  monitor := by decide
  offered := by decide

/-- A drain whose last masked entry the FLUSH removes. -/
theorem witness_FlushCompletesWaitingEntries :
    (inFrame (drainingFor 0)).inCommand ∧ (inFrame (drainingFor 0)).QueueLegal ∧
    (inFrame (drainingFor 0)).DrainLegal :=
  ⟨by decide, queueLegal_drainingFor, by decide, by decide, by decide⟩

theorem witness_ClassChargeAtGrant :
    e40.kind.isBit = true ∧ e40.kind = .bitRead .set 3 ∧
    (entry (.bus 0) 0 .plainRead 0x1000 8 1).kind.isBit = false ∧
    (entry (.bus 0) 0 (.bitWrite .test 31) 0x1000 1 1).kind = .bitWrite .test 31 := by decide

theorem witness_IntervalExpiryRefills :
    (State.reset.advance 1000).resetAsserted = false ∧
    (State.reset.advance 1000).classTable.length ≤ (State.reset.advance 1000).classTable.timer := by
  decide

theorem witness_ClassWriteClipsCredit :
    framed.inCommand ∧ ((7 : Fin 8).val = (7 : Byte).toNat ∧ ClassMode.report.byte = 2) ∧
    7 < (8 : Byte).toNat ∧ 2 < (3 : Byte).toNat := by
  exact ⟨by decide, by decide, by decide, by decide⟩

theorem witness_LateAndStrayAnswers :
    stalled.resetAsserted = false ∧ stalled.mem.port = .stalled ∧
    stalled.mem.tags[7] = .quarantined ∧ State.reset.mem.port = .running ∧
    State.reset.mem.tags[0] = .free := by decide

theorem witness_AnswersWithoutAnAccess :
    (recovering 0).mem.port = .recovering ∧ State.reset.asserted.resetAsserted = true ∧
    (writingBack none).mem.port = .running ∧
    (writingBack none).mem.tags[0] = .busy e40.id .writeBack none := by decide

/-- One issued access of each phase: a read of eight words, a write, a fetch, a write-back. -/
theorem witness_AnswersToAnAccess :
    (let e := entry (.bus 0) 0 .plainRead 0x1000 8 1
     let s := issuedOn e 99
     s.mem.port = .running ∧ s.mem.tags[0] = .busy e.id .read (some { limit := 100, timer := 99 }) ∧
       s.findEntry e.id = some (issuedEntry e) ∧ (List.replicate 8 (0 : Word)).length = e.length) ∧
    (let e := entry (.bus 0) 0 (.plainWrite (some 15) [1]) 0x1000 1 1
     let s := issuedOn e 99
     s.mem.tags[0] = .busy e.id .write (some { limit := 100, timer := 99 }) ∧
       s.findEntry e.id = some (issuedEntry e)) ∧
    (let s := issuedOn e40 0
     s.mem.tags[0] = .busy e40.id .fetch (some { limit := 100, timer := 0 }) ∧
       s.findEntry e40.id = some (issuedEntry e40) ∧ (issuedEntry e40).kind = .bitRead .set 3) ∧
    (let s := writingBack (some { limit := 100, timer := 0 })
     s.mem.tags[0] = .busy e40.id .writeBack (some { limit := 100, timer := 0 }) ∧
       (s.findEntry e40.id).isSome = true ∧ ((s.slotOf e40.id).bind Slot.fetched).isSome = true) := by
  decide

/-- The words of an answer that differ in number from the access's: none, and one too many. -/
theorem witness_OtherWordCounts :
    ([] : List Word).length ≠ (issuedEntry e40).length ∧
    (List.replicate 9 (0 : Word)).length ≠ (entry (.bus 0) 0 .plainRead 0x1000 8 1).length := by decide

theorem witness_WriteBackIsIssued :
    (writingBack none).mem.writeBacks = 0 :: [] ∧
    ((writingBack none).slotOf e40.id).bind Slot.fetched =
      some { word := 0xF0, newWord := 0xF8, write := true } := by decide

/-- Section 4.9, step (3); and with a FREE tag beside it. -/
theorem witness_ResponseTimeoutQuarantines :
    (∃ o p i e, before493.mem.tags[7] = .busy o p (some i) ∧ i.limit ≤ i.timer ∧
      before493.findEntry o = some e ∧ before493.mem.port = .running) ∧
    (∀ m : Fin 8, m ≠ 7 → before493.mem.tags[m] = .quarantined) ∧
    (issuedOn (entry (.bus 0) 0 .plainRead 0x1000 8 1) 100).mem.tags[1] ≠ .quarantined :=
  ⟨⟨_, _, _, _, rfl, by decide, rfl, rfl⟩, by decide, by decide⟩

theorem witness_FaultClearAndRecovery :
    (inFrame stalled).inCommand ∧ (inFrame stalled).mem.port = .stalled ∧
    framed.mem.port ≠ .stalled ∧
    ((recovering 10).mem.port = .recovering ∧ 10 ≤ (recovering 10).mem.recoveryTimer) := by
  exact ⟨by decide, by decide, by decide, by decide⟩

/-- Each kind accepted; and a record refused for its start alone. -/
theorem witness_WindowWriteStoresOrRefuses :
    framed.inCommand ∧ (15 : Fin 16).val = (15 : Byte).toNat ∧ 15 < (16 : Byte).toNat ∧
    (∀ k : Fin 4, Acceptable
      { w9Bytes 5 with
        kind := BitVec.ofNat 8 k.val, base := 0x60000000,
        size := if k = 2 then 16 else 0x800, columns := 4096, rows := 65536, pitch := 0x4000,
        target := 0x10000000, scan := 1, endPolicy := 1 }) ∧
    ¬ Acceptable (w9Bytes 6) := by
  refine ⟨by decide, by decide, by decide, fun k => ?_, fun h => ?_⟩
  · match k with
    | 0 => constructor <;> decide
    | 1 => constructor <;> decide
    | 2 => constructor <;> decide
    | 3 => constructor <;> decide
  · exact absurd (h.ring (by decide)).2.2.2.2.2.2.2.2.1 (by decide)

theorem witness_CursorSetPlacesTheCursor :
    (inFrame mapped).inCommand ∧
    ((inFrame mapped).windows[8].valid = true ∧ (inFrame mapped).windows[8].kind = .aperture ∧
      (0 : Half).toNat < (inFrame mapped).windows[8].rows ∧
      (1 : Half).toNat < (inFrame mapped).windows[8].columns) ∧
    (inFrame mapped).windows[8].columns ≤ (2 : Half).toNat ∧
    (inFrame mapped).windows[9].kind ≠ .aperture ∧ (inFrame mapped).windows[15].valid = false := by
  exact ⟨by decide, by decide, by decide, by decide, by decide⟩

theorem witness_RotateMovesTheStart :
    (inFrame mapped).inCommand ∧
    (let x := (inFrame mapped).windows[9]
     x.valid = true ∧ x.kind = .ring ∧ (5 : Byte).toNat < x.ringN - x.ringH - x.ringT ∧
       x.ringN - x.ringH - x.ringT ≤ (6 : Byte).toNat ∧ 1 ≤ (1 : Byte).toNat) ∧
    (inFrame mapped).windows[8].kind ≠ .ring ∧ ((2 : Byte) ≠ 0 ∧ (2 : Byte) ≠ 1) := by
  exact ⟨by decide, by decide, by decide, by decide⟩

theorem witness_SettingsWriteAndDefaults :
    framed.inCommand ∧
    (let d := drainIn .drained 0xFF framed
     d.drain.state = .drained ∧ d.drain.mask = 0xFF ∧ d.queue.entries = []) ∧
    (drainIn .drained 0x7F framed).drain.mask ≠ 0xFF ∧
    (settingsOfBytes
      { interval := 4096, holdLimit := 0, responseLimit := 1023, drainLimit := 255, threshold := 24,
        monitorClass := 7, defaultClass := 7, flags := 0 }).isSome = true ∧
    settingsOfBytes
      { interval := 4097, holdLimit := 0, responseLimit := 1, drainLimit := 1, threshold := 1,
        monitorClass := 0, defaultClass := 0, flags := 0 } = none := by
  exact ⟨by decide, by decide, by decide, by decide, by decide⟩

theorem witness_MonitorAccessIsJudgedInOrder :
    framed.inCommand ∧ (0xFFFFFFFF : Word).toNat % 4 ≠ 0 ∧ (0xFFFFFFFC : Word).toNat % 4 = 0 ∧
    framed.service.monitor.state ≠ .busy ∧
    24 ≤ (queued (List.replicate 24 (entry (.bus 0) 0 .plainRead 0 1 0))).queue.entries.length := by
  exact ⟨by decide, by decide, by decide, by decide, by decide⟩

theorem witness_MonitorResultCollects :
    framed.inCommand ∧ framed.service.monitor.state ≠ .done ∧
    (framed.setMonitor { state := .done, outcome := some .ok, data := 0x31 }).inCommand := by
  exact ⟨by decide, by decide, by decide⟩

theorem witness_EventSetupSetsALevel :
    framed.inCommand ∧ 12 < (13 : Byte).toNat ∧ 7 < (8 : Byte).toNat ∧
    Source.memError.vector.val = (1 : Byte).toNat ∧
    Source.monitorDone.vector.val = (12 : Byte).toNat := by
  exact ⟨by decide, by decide, by decide, by decide, by decide⟩

theorem eventsLegal_reset : State.reset.EventsLegal where
  source src := by cases src <;> constructor <;> decide
  floor := by decide
  depth := by decide
  saved := by decide

theorem witness_EventFloorAndRestore :
    (inFrame stalled).inCommand ∧ (inFrame State.reset).EventsLegal ∧
    (inFrame { State.reset with mem := { State.reset.mem with port := .stalled } }).EventsLegal ∧
    (7 : Byte).toNat ≤ 7 ∧ 8 ≤ (8 : Byte).toNat ∧ State.reset.events.stack = [] ∧
    (before811.raiseFloor 3).events.stack = 0 :: [] :=
  ⟨by decide, ⟨eventsLegal_reset.source, by decide, by decide, by decide⟩,
    ⟨eventsLegal_reset.source, by decide, by decide, by decide⟩, by decide, by decide, rfl, by decide⟩

/-- Section 8.11, step (5): HOLD_TIMEOUT and QUEUE_HIGH at one level; a full stack; nothing above. -/
theorem witness_EventTakeSelects :
    (inFrame before811).inCommand ∧ before811.events.stack.length < 4 ∧
    before811.aboveFloor .holdTimeout = true ∧ before811.aboveFloor .queueHigh = true ∧
    (before811.source .holdTimeout).level = (before811.source .queueHigh).level ∧
    Source.holdTimeout.vector ≤ Source.queueHigh.vector ∧
    (∀ src ∈ Source.all, State.reset.aboveFloor src = false) ∧
    4 ≤ [0, 1, 2, 3].length := by
  exact ⟨by decide, by decide, by decide, by decide, by decide, by decide, by decide, by decide⟩

/-- The four snapshots: one EXHAUSTED cursor, a drain DRAINED, a drain STUCK behind one entry. -/
theorem witness_EventTakeSnapshots :
    ((atEnd true).cursors[8] = some { row := 0, column := 1, exhausted := true } ∧
      (atEnd true).exhausted = [8]) ∧
    (drainIn .drained 1 framed).drain.state = .drained ∧
    (let s := drainIn .stuck 0b100100 (drainingFor 2000)
     s.drain.state = .stuck ∧ s.queue.entries = [] ++ entry (.bus 5) 0 .plainRead 0x1000 1 6 :: [] ∧
       inMask s.drain.mask (.bus 5) = true) := by decide

theorem witness_EventClearAndOccurrences :
    (inFrame before811).inCommand ∧
    (Source.interval.isLevel = false ∧ (0x0800 : Half).getLsbD 11 = true ∧
      (before811.source .interval).pending = true) ∧
    Source.queueHigh.isLevel = true ∧ (before811.source .watch).pending = false := by
  exact ⟨by decide, by decide, by decide, by decide⟩

theorem witness_DrainStarts :
    (inFrame (queued table46)).inCommand ∧ (queued table46).drain.state = .none ∧
    (∃ e ∈ (queued table46).queue.entries, inMask 1 e.requester = true) ∧
    (∀ e ∈ (queued table46).queue.entries, inMask 0xF8 e.requester = false) ∧
    (drainIn .stuck 1 framed).drain.state ≠ .none := by
  exact ⟨by decide, by decide, by decide, by decide, by decide⟩

theorem witness_ResumeAndDrainExpiry :
    framed.inCommand ∧ framed.drain.state = .none ∧ (drainIn .stuck 1 framed).drain.state ≠ .none ∧
    ((drainingFor 2000).drain.state = .draining ∧
      1000 * (drainingFor 2000).drain.limit ≤ (drainingFor 2000).drain.timer) := by
  exact ⟨by decide, by decide, by decide, by decide⟩

theorem witness_FramesOfTheServicePort :
    State.reset.service.ssnLow = false ∧
    (framed.service.ssnLow = true ∧ framed.service.frame = .command) ∧
    (framed.replying [1]).service.frame = .reply ∧
    (framed.asserted.service.ssnLow = true ∧ framed.asserted.service.frame = .idle) := by decide

theorem witness_Sdo :
    State.reset.service.frame = .idle ∧ framed.service.frame = .command ∧
    (framed.replying [1]).service.reply = 1 :: [] ∧
    gives (exec .endOfReply (framed.replying [1])) (fun t => decide (t.service.frame = .trail)) =
      true := by decide

theorem witness_UnknownCommandsAreAnswered :
    framed.inCommand ∧ ∀ c ∈ ServiceCode.all, c.byte ≠ 0x00 ∧ c.byte ≠ 0xFF ∧ c.byte ≠ 0x65 := by
  exact ⟨by decide, by decide⟩

theorem witness_InspectionCommandsReply :
    framed.inCommand ∧ 7 < (8 : Byte).toNat ∧ (7 : Fin 8).val = (7 : Byte).toNat ∧
    (15 : Fin 16).val = (15 : Byte).toNat ∧ 24 ≤ (24 : Byte).toNat ∧
    (framed.queue.entries.length ≤ (23 : Byte).toNat ∧ (23 : Byte).toNat < 24) ∧
    (queued table46).queue.entries[(3 : Byte).toNat]? =
      some (entry (.bus 2) 0 .plainRead 0x4000 2 5) := by
  exact ⟨by decide, by decide, by decide, by decide, by decide, by decide, by decide⟩

theorem witness_RepliesHaveTheTablesLength :
    decodeArgs .windowWrite (9 :: (w9Bytes 5).toBytes) = some (.windowWrite 9 (w9Bytes 5)) ∧
    framed.inCommand := by
  exact ⟨by decide, by decide⟩

theorem witness_WellFormedCommandsComplete :
    (Instr.flush 8).wellFormed = true ∧ encodeFrame (.flush 8) ≠ none ∧
    ¬ State.reset.inCommand ∧ (req 0 0 .read 0x1002 1).wf = false := by
  exact ⟨by decide, by decide, by decide, by decide⟩

theorem witness_FramesDecodeAsEncoded :
    (Instr.windowWrite 9 (w9Bytes 5)).wellFormed = true ∧
    encodeFrame (.windowWrite 9 (w9Bytes 5)) = some (0x20 :: 9 :: (w9Bytes 5).toBytes) ∧
    (framed.inCommand ∧ framed.service.ssnLow = true) ∧
    ((framed.replying [1, 2]).service.frame = .reply ∧ (framed.replying [1, 2]).service.bits = []) ∧
    (msbFirst 0).length = 8 ∧ State.reset.service.ssnLow = false := by decide

/-! ### A state with work in it that meets every law, and a step of it -/

/-- The read `working` has issued. -/
def read8 : Entry := issuedEntry (entry (.bus 0) 0 .plainRead 0x1000 8 1)

/-- Windows and a cursor, an issued access, a drain that waits for it, and a command in the queue. -/
def working : State :=
  State.judge
    { issuedOn (entry (.bus 0) 0 .plainRead 0x1000 8 1) 99 with
      windows := mapped.windows, cursors := mapped.cursors, pending := [.responseTimerExpiry 0],
      drain := { state := .draining, mask := 1, limit := 2, timer := 1999 } }

/-- R76, R153: the last masked entry leaves at the expiry. -/
theorem working_steps : gives (step working) (fun t =>
    decide (t.mem.tags[0] = .quarantined) && decide (t.drain.state = .drained) &&
      t.queue.entries.isEmpty) = true := by decide

theorem working_tablesLegal : working.TablesLegal ∧ working.settings.Legal := by
  refine ⟨⟨fun w => ?_, by decide, fun w c h => ?_⟩, by constructor <;> decide⟩
  · constructor <;> revert w <;> decide
  · have key : ∀ w : Fin 16, ∀ c ∈ working.cursors[w].toList,
        c.row < working.windows[w].rows ∧ c.column < working.windows[w].columns ∧
          c.exhausted = false := by decide
    have hc := key w c (by rw [h]; exact List.mem_singleton.mpr rfl)
    exact ⟨hc.1, hc.2.1, fun he => absurd (hc.2.2.symm.trans he) (by decide)⟩

theorem working_entry {e : Entry} (h : e ∈ working.queue.entries) : e = read8 := by
  have : working.queue.entries = [read8] := by decide
  rw [this] at h
  exact List.mem_singleton.mp h

theorem working_tag {n : Fin 8} {o : EntryId} {p : Phase} {i : Option Issued}
    (h : working.mem.tags[n] = .busy o p i) :
    n = 0 ∧ o = read8.id ∧ p = .read ∧ i = some { limit := 100, timer := 99 } := by
  have key : ∀ n : Fin 8, n = 0 ∨ working.mem.tags[n] = .free := by decide
  have zero : working.mem.tags[(0 : Fin 8)] =
      .busy read8.id .read (some { limit := 100, timer := 99 }) := by decide
  rcases key n with rfl | hf
  · rw [zero] at h
    cases h
    exact ⟨rfl, rfl, rfl, rfl⟩
  · rw [hf] at h
    cases h

theorem working_queueLegal : working.QueueLegal where
  depth := by decide
  names := by decide
  entry e he := by rw [working_entry he]; exact ⟨by decide, by decide, by decide⟩
  tagBusy := by decide
  monitor := by decide
  offered := by decide

theorem working_entriesPlaced : working.EntriesPlaced := fun e he => by
  rw [working_entry he]; decide

theorem working_classesLegal : working.ClassesLegal := by
  intro k; constructor <;> revert k <;> decide

theorem working_portLegal : working.PortLegal where
  waiting := by decide
  granted e he _ := by rw [working_entry he]; exact ⟨0, by decide, by decide, { limit := 100, timer := 99 }, by decide⟩
  owner n o p i h := by
    obtain ⟨rfl, rfl, rfl, rfl⟩ := working_tag h
    exact ⟨read8, by decide, by decide, by decide⟩
  writeBackOnce := by decide
  writeBackWaits n := by
    refine ⟨fun h => absurd h (by revert n; decide), fun ⟨_, h⟩ => ?_⟩
    exact absurd (working_tag h).2.2.2 (by decide)
  twoSlots := by decide
  slotOwners := by decide
  slotServes x hx := absurd hx (by rw [(by decide : working.slots = [])]; exact List.not_mem_nil)
  slotHeld := by decide
  stalled := by decide
  noBusy h := absurd (by decide) h

theorem working_orderLegal : working.OrderLegal := by
  have : working.queue.entries = [read8] := by decide
  unfold State.OrderLegal
  rw [this]
  exact List.pairwise_singleton _ _

theorem working_eventsLegal : working.EventsLegal where
  source src := by cases src <;> constructor <;> decide
  floor := by decide
  depth := by decide
  saved := by decide

theorem working_eventsJudged : working.EventsJudged where
  pending src := by cases src <;> decide
  irqn := by decide

theorem working_drainLegal : working.DrainLegal := ⟨by decide, by decide, by decide⟩

theorem working_timersLegal : working.TimersLegal where
  interval := by decide
  hold := by decide
  response n o p i h := by
    have := (working_tag h).2.2.2
    cases this
    decide
  recovery := by decide
  drain := by decide

theorem witness_ResetHeldKept :
    State.reset.asserted.ResetHeld ∧ State.reset.asserted.MrstnLegal ∧
    State.reset.asserted.resetAsserted = true ∧
    gives (step State.reset.asserted) (fun t => t.resetAsserted) = true :=
  ⟨fun _ => rfl, ⟨fun _ => .inr rfl, fun _ => rfl⟩, by decide, by decide⟩

end Sys2Proof.Tests
end

section
/-! SUPPORT. Eligibility (R31 to R34, R49, R50, R89): what each of the six conditions says, the older
entries of an entry by its place in the queue, and the hold reason as the first condition not met. -/

namespace Sys2Proof.Machine

open Sys2Proof

/-! ### The six conditions -/

/-- R33: the interval test finds exactly the aligned ranges with a common word. A common word is a word of
one range that is the first word of the other. -/
theorem overlap_iff_common_word {a b : Entry} (ha : 1 ≤ a.length) (hb : 1 ≤ b.length)
    (hpa : a.physical.toNat % 4 = 0) (hpb : b.physical.toNat % 4 = 0) :
    overlap a b = true ↔ ∃ i < a.length, ∃ j < b.length,
      a.physical.toNat + 4 * i = b.physical.toNat + 4 * j := by
  unfold overlap
  rw [Bool.and_eq_true, decide_eq_true_iff, decide_eq_true_iff]
  constructor
  · rintro ⟨hab, hba⟩
    rcases Nat.le_total a.physical.toNat b.physical.toNat with hle | hle
    · exact ⟨(b.physical.toNat - a.physical.toNat) / 4, by omega, 0, hb, by omega⟩
    · exact ⟨0, ha, (a.physical.toNat - b.physical.toNat) / 4, by omega, by omega⟩
  · rintro ⟨i, hi, j, hj, hword⟩
    omega

theorem orderMet_iff (older : List Entry) (e : Entry) :
    orderMet older e = true ↔ ∀ a ∈ older, a.requester = e.requester → a.state ≠ .waiting := by
  simp [orderMet, imp_iff_not_or]

theorem hazardMet_iff (older : List Entry) (e : Entry) :
    hazardMet older e = true ↔ ∀ a ∈ older, overlap a e = false := by
  simp [hazardMet]

theorem levelMet_iff (c : ClassRecord) : levelMet c = true ↔ 1 ≤ c.level.val :=
  decide_eq_true_iff

theorem creditMet_iff (c : ClassRecord) :
    creditMet c = true ↔
      c.mode = .free ∨ c.mode = .report ∨ (c.mode = .enforce ∧ 1 ≤ c.credit) := by
  unfold creditMet
  cases c.mode <;> simp

theorem State.slotMet_iff (s : State) (e : Entry) :
    s.slotMet e = true ↔ e.kind.isBit = false ∨ s.slots.length < 2 := by
  simp [State.slotMet]

theorem State.lowestFree_isSome_iff (s : State) :
    s.lowestFree.isSome = true ↔ ∃ n : Fin 8, s.mem.tags[n] = .free := by
  simp [State.lowestFree]

theorem State.portMet_iff (s : State) :
    s.portMet = true ↔
      s.mem.port = .running ∧ s.mem.ready = true ∧ ∃ n : Fin 8, s.mem.tags[n] = .free := by
  unfold State.portMet
  rw [Bool.and_eq_true, Bool.and_eq_true, decide_eq_true_iff, State.lowestFree_isSome_iff, and_assoc]

/-! ### The older entries, eligibility and the hold reason -/

/-- R29: the older entries are those in front of the entry of the name. -/
theorem State.olderThan_eq {s : State} {before after : List Entry} {e : Entry}
    (hq : s.queue.entries = before ++ e :: after) (hb : ∀ a ∈ before, a.id ≠ e.id) :
    s.olderThan e.id = before := by
  unfold State.olderThan
  rw [hq, List.takeWhile_append_of_pos fun a ha => decide_eq_true (hb a ha),
    List.takeWhile_cons_of_neg (by simp), List.append_nil]

theorem State.firstUnmet_eq_none_iff (s : State) (e : Entry) :
    s.firstUnmet e = none ↔
      orderMet (s.olderThan e.id) e = true ∧ hazardMet (s.olderThan e.id) e = true ∧
      levelMet s.classTable.classes[e.cls] = true ∧
      creditMet s.classTable.classes[e.cls] = true ∧ s.slotMet e = true ∧ s.portMet = true := by
  unfold State.firstUnmet
  split_ifs <;> simp_all

/-- R31. -/
theorem State.eligible_iff (s : State) (e : Entry) :
    s.eligible e = true ↔
      e.state = .waiting ∧
      orderMet (s.olderThan e.id) e = true ∧ hazardMet (s.olderThan e.id) e = true ∧
      levelMet s.classTable.classes[e.cls] = true ∧
      creditMet s.classTable.classes[e.cls] = true ∧ s.slotMet e = true ∧ s.portMet = true := by
  unfold State.eligible
  rw [Bool.and_eq_true, decide_eq_true_iff, Option.isNone_iff_eq_none, s.firstUnmet_eq_none_iff]

/-- R34: the first five conditions decide the hold reason; PORT is what is left when they are met,
whether or not the port's own condition is. -/
theorem State.holdReason_eq (s : State) (e : Entry) :
    s.holdReason e =
      if orderMet (s.olderThan e.id) e = true then
        if hazardMet (s.olderThan e.id) e = true then
          if levelMet s.classTable.classes[e.cls] = true then
            if creditMet s.classTable.classes[e.cls] = true then
              if s.slotMet e = true then .port else .slot
            else .credit
          else .level
        else .hazard
      else .order := by
  unfold State.holdReason State.firstUnmet
  split_ifs <;> simp_all

/-- Settles O15: each condition of the model is the rule's by its own lemma, with the entries in front of
`e` as the older ones, and the clauses on the hold reason are the branches of `State.holdReason_eq`. -/
theorem eligibilityIsTheSixConditions : Obligations.EligibilityIsTheSixConditions := by
  refine ⟨fun a b => overlap_iff_common_word, fun s before after e hq hb => ?_⟩
  have heligible := s.eligible_iff e
  have hreason := s.holdReason_eq e
  simp only [State.olderThan_eq hq hb, orderMet_iff, hazardMet_iff, levelMet_iff, creditMet_iff,
    State.slotMet_iff, State.portMet_iff] at heligible hreason
  refine ⟨heligible, fun horder => ?_, fun horder hhazard => ?_, fun horder hhazard hlevel => ?_,
    fun horder hhazard hlevel hcredit => ?_, fun horder hhazard hlevel hcredit hslot => ?_,
    fun horder hhazard hlevel hcredit hslot => ?_⟩
  · rw [hreason, if_neg horder]
  · rw [hreason, if_pos horder, if_neg hhazard]
  · rw [hreason, if_pos horder, if_pos hhazard, if_neg hlevel]
  · rw [hreason, if_pos horder, if_pos hhazard, if_pos hlevel, if_neg hcredit]
  · rw [hreason, if_pos horder, if_pos hhazard, if_pos hlevel, if_pos hcredit, if_neg hslot]
  · rw [hreason, if_pos horder, if_pos hhazard, if_pos hlevel, if_pos hcredit, if_pos hslot]

end Sys2Proof.Machine
end

section
/-! SUPPORT. Writing a class (R59, R173): which bytes are a class number, a level or a mode, and the two
ends of the checks of CLASS-WRITE. -/

namespace Sys2Proof.Machine

open Sys2Proof

/-! ### The bytes of a class number, a level and a mode -/

theorem below8_eq_some_iff {b : Byte} {k : Fin 8} : below8 b = some k ↔ k.val = b.toNat := by
  unfold below8
  split
  · next _ => rw [Option.some_inj, Fin.ext_iff, eq_comm]
  · next hout =>
    have := k.isLt
    exact ⟨nofun, fun _ => by omega⟩

theorem below8_eq_none_iff {b : Byte} : below8 b = none ↔ 7 < b.toNat := by
  rw [below8, dite_eq_right_iff]
  constructor
  · intro hin
    exact Nat.lt_of_not_le fun hle => absurd (hin (Nat.lt_succ_of_le hle)) nofun
  · exact fun hout hin => absurd hin (Nat.not_lt.mpr hout)

@[simp] theorem ClassMode.ofByte_byte (m : ClassMode) : ClassMode.ofByte m.byte = some m := by
  cases m <;> rfl

/-- R173: the modes have the bytes 0, 1 and 2, and no larger byte is a mode. -/
theorem ClassMode.ofByte_eq_none {b : Byte} (h : 2 < b.toNat) : ClassMode.ofByte b = none := by
  have hfree : b ≠ 0 := by rintro rfl; exact absurd h (by decide)
  have henforce : b ≠ 1 := by rintro rfl; exact absurd h (by decide)
  have hreport : b ≠ 2 := by rintro rfl; exact absurd h (by decide)
  rw [ClassMode.ofByte, if_neg hfree, if_neg henforce, if_neg hreport]

/-! ### CLASS-WRITE -/

/-- R163: CLASS-WRITE taken in a frame is the write of the class and its reply. -/
theorem exec_classWrite_of_inCommand {s : State} (hc : s.inCommand) (number level mode : Byte)
    (budget carry : Half) :
    exec (.classWrite number level mode budget carry) s =
      .next ((s.writeClass number level mode budget carry).1.replying
        (s.writeClass number level mode budget carry).2.bytes) :=
  serve_command hc _

/-- R59: with every check passed, the addressed record alone is written. -/
theorem State.writeClass_done {number level : Byte} {k l : Fin 8} (hk : k.val = number.toNat)
    (hl : l.val = level.toNat) (m : ClassMode) (budget carry : Half) (s : State) :
    s.writeClass number level m.byte budget carry =
      (s.setClass k (s.classTable.classes[k].written l m budget carry), .done []) := by
  rw [State.writeClass, below8_eq_some_iff.mpr hk, below8_eq_some_iff.mpr hl, m.ofByte_byte]

/-- R59: any one failing check leaves the state as it is and is answered RANGE. -/
theorem State.writeClass_range {number level mode : Byte}
    (h : 7 < number.toNat ∨ 7 < level.toNat ∨ 2 < mode.toNat) (budget carry : Half) (s : State) :
    s.writeClass number level mode budget carry = (s, .range) := by
  unfold State.writeClass
  split
  · next _ _ _ hk hl hm =>
    rcases h with hnumber | hlevel | hmode
    · exact nomatch hk.symm.trans (below8_eq_none_iff.mpr hnumber)
    · exact nomatch hl.symm.trans (below8_eq_none_iff.mpr hlevel)
    · exact nomatch hm.symm.trans (ClassMode.ofByte_eq_none hmode)
  · rfl

/-- Settles O23: the two clauses are the two ends of the checks, `State.writeClass_done` (whose record is
`ClassRecord.written`, credit clipped) and `State.writeClass_range`. -/
theorem classWriteClipsCredit : Obligations.ClassWriteClipsCredit := by
  intro s number level mode budget carry hc
  constructor
  · rintro k l m hk hl rfl
    rw [exec_classWrite_of_inCommand hc, State.writeClass_done hk hl]
    rfl
  · intro hfail
    rw [exec_classWrite_of_inCommand hc, State.writeClass_range hfail]
    rfl

end Sys2Proof.Machine
end

section
/-! SUPPORT. The answers that complete no access (R77, R78): when the port hears an answer, and what it
does with one for a QUARANTINED or a FREE tag. -/

namespace Sys2Proof.Machine

open Sys2Proof

/-! ### The port hears an answer -/

/-- R82, R83: only RECOVERING and an asserted RESETN keep an answer from having an effect. -/
theorem State.hearsAnswer {s : State} (hr : s.resetAsserted = false)
    (hp : s.mem.port = .running ∨ s.mem.port = .stalled) :
    ¬ (s.resetAsserted = true ∨ s.mem.port = .recovering) := by
  rintro (hreset | hrecovering)
  · exact Bool.false_ne_true (hr.symm.trans hreset)
  · rcases hp with hrunning | hstalled
    · exact nomatch hrunning.symm.trans hrecovering
    · exact nomatch hstalled.symm.trans hrecovering

/-! ### MEMORY_ANSWER without an access -/

/-- R77: the late answer frees its tag, whatever its outcome and words. -/
theorem exec_memoryAnswer_quarantined {s : State} {n : Fin 8}
    (hhears : ¬ (s.resetAsserted = true ∨ s.mem.port = .recovering))
    (ht : s.mem.tags[n] = .quarantined) (outcome : AnswerOutcome) (data : List Word) :
    exec (.memoryAnswer n outcome data) s = .next (s.setTag n .free) := by
  simp only [exec, execMemoryAnswer]
  rw [if_neg hhears, ht]

/-- R78: the answer for a FREE tag is stray, whatever its outcome and words. -/
theorem exec_memoryAnswer_free {s : State} {n : Fin 8}
    (hhears : ¬ (s.resetAsserted = true ∨ s.mem.port = .recovering))
    (ht : s.mem.tags[n] = .free) (outcome : AnswerOutcome) (data : List Word) :
    exec (.memoryAnswer n outcome data) s = .next s.stray.judge := by
  simp only [exec, execMemoryAnswer]
  rw [if_neg hhears, ht]

/-- R78, R101: a stray answer is one occurrence of MEM_ERROR, whose detail is the code STRAY alone. -/
theorem State.stray_eq (s : State) :
    s.stray = s.report .memError
      { requester := none, address := 0, window := none, cls := none, code := some .stray } := rfl

/-- Settles O24: the two clauses are the two states of a tag without an access, each by its own lemma. -/
theorem lateAndStrayAnswers : Obligations.LateAndStrayAnswers := by
  intro s n outcome data hr hp
  have hhears := State.hearsAnswer hr hp
  constructor
  · intro hquarantined
    rw [exec_memoryAnswer_quarantined hhears hquarantined]
    rfl
  · intro hfree
    rw [exec_memoryAnswer_free hhears hfree, State.stray_eq]

end Sys2Proof.Machine
end

section
/-! SUPPORT. The ring map (R123 to R125): where it takes a fixed and a rotating block, that it is one to
one on blocks, and that it therefore is one to one on the bytes of the window and stays inside it. -/

namespace Sys2Proof.Machine

open Sys2Proof

/-! ### The zones (R123) -/

/-- R123: the block lies in the head or the tail, or past the window, where `ringBlock` leaves it too. -/
def WindowRecord.FixedBlock (w : WindowRecord) (b : Nat) : Prop :=
  b < w.ringH ∨ w.ringN - w.ringT ≤ b

theorem WindowRecord.not_fixedBlock_rotating {w : WindowRecord} {i : Nat} (hi : i < w.rotating) :
    ¬ w.FixedBlock (w.ringH + i) := by
  simp only [WindowRecord.rotating, WindowRecord.FixedBlock] at hi ⊢
  omega

theorem WindowRecord.exists_rotating_of_not_fixedBlock {w : WindowRecord} {b : Nat}
    (hb : ¬ w.FixedBlock b) : ∃ i < w.rotating, b = w.ringH + i := by
  simp only [WindowRecord.rotating, WindowRecord.FixedBlock] at hb ⊢
  exact ⟨b - w.ringH, by omega, by omega⟩

/-! ### The map of blocks (R124) -/

theorem ringBlock_fixed {w : WindowRecord} {b : Nat} (hb : w.FixedBlock b) : ringBlock w b = b :=
  if_pos hb

theorem ringBlock_rotating {w : WindowRecord} {i : Nat} (hi : i < w.rotating) :
    ringBlock w (w.ringH + i) = w.ringH + (i + w.ringS) % w.rotating := by
  calc ringBlock w (w.ringH + i)
      = w.ringH + (w.ringH + i - w.ringH + w.ringS) % w.rotating :=
        if_neg (WindowRecord.not_fixedBlock_rotating hi)
    _ = w.ringH + (i + w.ringS) % w.rotating := by rw [Nat.add_sub_cancel_left]

/-- R125: the map keeps the zones apart. -/
theorem fixedBlock_ringBlock_iff {w : WindowRecord} {b : Nat} :
    w.FixedBlock (ringBlock w b) ↔ w.FixedBlock b := by
  by_cases hb : w.FixedBlock b
  · rw [ringBlock_fixed hb]
  · obtain ⟨i, hi, rfl⟩ := WindowRecord.exists_rotating_of_not_fixedBlock hb
    have himage : (i + w.ringS) % w.rotating < w.rotating := Nat.mod_lt _ (Nat.zero_lt_of_lt hi)
    rw [ringBlock_rotating hi]
    exact iff_of_false (WindowRecord.not_fixedBlock_rotating himage) hb

theorem ringBlock_injective (w : WindowRecord) : Function.Injective (ringBlock w) := by
  intro b c heq
  by_cases hb : w.FixedBlock b
  · have hc : w.FixedBlock c := by
      rwa [← fixedBlock_ringBlock_iff, ← heq, fixedBlock_ringBlock_iff]
    rwa [ringBlock_fixed hb, ringBlock_fixed hc] at heq
  · have hc : ¬ w.FixedBlock c := by
      rwa [← fixedBlock_ringBlock_iff, ← heq, fixedBlock_ringBlock_iff]
    obtain ⟨i, hi, rfl⟩ := WindowRecord.exists_rotating_of_not_fixedBlock hb
    obtain ⟨j, hj, rfl⟩ := WindowRecord.exists_rotating_of_not_fixedBlock hc
    rw [ringBlock_rotating hi, ringBlock_rotating hj] at heq
    have hturned : i + w.ringS ≡ j + w.ringS [MOD w.rotating] := Nat.add_left_cancel heq
    rw [(Nat.ModEq.add_right_cancel' w.ringS hturned).eq_of_lt_of_lt hi hj]

theorem ringBlock_lt {w : WindowRecord} {b : Nat} (hb : b < w.ringN) : ringBlock w b < w.ringN := by
  by_cases hfixed : w.FixedBlock b
  · rwa [ringBlock_fixed hfixed]
  · have himage : ¬ w.FixedBlock (ringBlock w b) := mt fixedBlock_ringBlock_iff.mp hfixed
    rw [WindowRecord.FixedBlock] at himage
    omega

/-- R125: the logical block from which a physical block of the rotating zone is reached. -/
theorem ringBlock_reaches {w : WindowRecord} {p : Nat} (hstart : w.ringS ≤ w.rotating)
    (hp : ¬ w.FixedBlock p) :
    ringBlock w (w.ringH + (p - w.ringH + (w.rotating - w.ringS)) % w.rotating) = p := by
  obtain ⟨j, hj, rfl⟩ := WindowRecord.exists_rotating_of_not_fixedBlock hp
  have hback : j + (w.rotating - w.ringS) + w.ringS = j + w.rotating := by omega
  rw [ringBlock_rotating (Nat.mod_lt _ (Nat.zero_lt_of_lt hj)), Nat.mod_add_mod,
    Nat.add_sub_cancel_left, hback, Nat.add_mod_right, Nat.mod_eq_of_lt hj]

/-- R125: with S = 1 the last rotating block reaches the first. -/
theorem ringBlock_last_of_start_one {w : WindowRecord} (hstart : w.ringS = 1) (hm : 2 ≤ w.rotating) :
    ringBlock w (w.ringN - w.ringT - 1) = w.ringH := by
  have hlast : w.ringN - w.ringT - 1 = w.ringH + (w.rotating - 1) := by
    simp only [WindowRecord.rotating] at hm ⊢
    omega
  rw [hlast, ringBlock_rotating (by omega), hstart, Nat.sub_add_cancel (by omega), Nat.mod_self,
    Nat.add_zero]

/-- R125: with S = 1 the first rotating block reaches the second. -/
theorem ringBlock_first_of_start_one {w : WindowRecord} (hstart : w.ringS = 1)
    (hm : 2 ≤ w.rotating) : ringBlock w w.ringH = w.ringH + 1 := by
  have hfirst := ringBlock_rotating (w := w) (i := 0) (by omega)
  rwa [hstart, Nat.add_zero, Nat.zero_add, Nat.mod_eq_of_lt hm] at hfirst

/-! ### The map of bytes (R124) -/

theorem WindowRecord.blockSize_pos (w : WindowRecord) : 0 < w.blockSize := Nat.two_pow_pos _

/-- R124: the offset from the target of the byte at an offset from the base (`ringAddress_toNat`). -/
def ringOffset (w : WindowRecord) (o : Nat) : Nat :=
  ringBlock w (o / w.blockSize) * w.blockSize + o % w.blockSize

theorem ringOffset_div (w : WindowRecord) (o : Nat) :
    ringOffset w o / w.blockSize = ringBlock w (o / w.blockSize) := by
  rw [ringOffset, Nat.mul_comm, Nat.mul_add_div w.blockSize_pos,
    Nat.div_eq_of_lt (Nat.mod_lt _ w.blockSize_pos), Nat.add_zero]

theorem ringOffset_mod (w : WindowRecord) (o : Nat) :
    ringOffset w o % w.blockSize = o % w.blockSize := by
  rw [ringOffset, Nat.mul_add_mod', Nat.mod_mod]

theorem ringOffset_injective (w : WindowRecord) : Function.Injective (ringOffset w) := by
  intro o q heq
  have hblock : o / w.blockSize = q / w.blockSize := by
    apply ringBlock_injective w
    rw [← ringOffset_div, ← ringOffset_div, heq]
  have hposition : o % w.blockSize = q % w.blockSize := by
    rw [← ringOffset_mod, ← ringOffset_mod w q, heq]
  rw [← Nat.div_add_mod o w.blockSize, hblock, hposition, Nat.div_add_mod]

theorem ringOffset_lt {w : WindowRecord} {o : Nat} (ho : o < w.ringN * w.blockSize) :
    ringOffset w o < w.ringN * w.blockSize := by
  rw [← Nat.div_lt_iff_lt_mul w.blockSize_pos] at ho ⊢
  rw [ringOffset_div]
  exact ringBlock_lt ho

/-- The physical address does not wrap where the target leaves it room. -/
theorem ringAddress_toNat {w : WindowRecord} {o : Nat}
    (hroom : w.target.toNat + ringOffset w o < 2 ^ 32) :
    (ringAddress w o).toNat = w.target.toNat + ringOffset w o := by
  rw [ringAddress, BitVec.toNat_ofNat, Nat.add_assoc]
  exact Nat.mod_eq_of_lt hroom

/-- R125, for a record that WINDOW-WRITE accepts. -/
theorem WindowRecord.Legal.ringOffset_lt_size {w : WindowRecord} (hw : w.Legal)
    (hv : w.valid = true) (hk : w.kind = .ring) {o : Nat} (ho : o < w.size.toNat) :
    ringOffset w o < w.size.toNat := by
  obtain ⟨-, -, -, -, hsize, -, -, -, -, -⟩ := hw.ring hv hk
  rw [hsize] at ho ⊢
  exact ringOffset_lt ho

/-- R8 leaves the target its room, so no physical address of an accepted record wraps. -/
theorem WindowRecord.Legal.ringAddress_toNat {w : WindowRecord} (hw : w.Legal)
    (hv : w.valid = true) (hk : w.kind = .ring) {o : Nat} (ho : o < w.size.toNat) :
    (ringAddress w o).toNat = w.target.toNat + ringOffset w o := by
  obtain ⟨-, -, -, -, -, -, -, -, -, htop⟩ := hw.ring hv hk
  have hin := hw.ringOffset_lt_size hv hk ho
  rw [addressSpace] at htop
  exact Machine.ringAddress_toNat (by omega)

/-- Settles O9: the clauses on blocks are those of `ringBlock` zone by zone, the clauses on addresses
those of `ringOffset`, which is one to one because the block and the position are. -/
theorem ringMapIsOneToOne : Obligations.RingMapIsOneToOne := by
  intro w hw hv hk
  obtain ⟨-, -, -, -, -, -, -, hzones, hstart, -⟩ := hw.ring hv hk
  refine ⟨fun b hb => ringBlock_lt hb, fun b _ c _ heq => ringBlock_injective w heq,
    fun b hb => ringBlock_fixed hb, ?turned, fun p hhead htail => ?reached, fun o ho => ?inside,
    fun o ho q hq heq => ?apart, ?advanced⟩
  case turned =>
    rintro i hi _ - rfl
    exact ringBlock_rotating hi
  case reached =>
    have hp : ¬ w.FixedBlock p := not_or.mpr ⟨Nat.not_lt.mpr hhead, Nat.not_le.mpr htail⟩
    have hle : w.ringS ≤ w.rotating := by
      rw [WindowRecord.rotating]
      omega
    exact ringBlock_reaches hle hp
  case inside =>
    have hin := hw.ringOffset_lt_size hv hk ho
    have haddress := hw.ringAddress_toNat hv hk ho
    omega
  case apart =>
    have hoffsets : w.target.toNat + ringOffset w o = w.target.toNat + ringOffset w q := by
      rw [← hw.ringAddress_toNat hv hk ho, heq, hw.ringAddress_toNat hv hk hq]
    exact ringOffset_injective w (Nat.add_left_cancel hoffsets)
  case advanced =>
    rintro - v rfl
    have hm : 2 ≤ WindowRecord.rotating { w with ringS := 1 } := by
      simp only [WindowRecord.rotating]
      omega
    exact ⟨ringBlock_last_of_start_one rfl hm, ringBlock_first_of_start_one rfl hm⟩

end Sys2Proof.Machine
end

section
/-! SUPPORT. ROTATE (R127 to R129): the start it gives, when it is answered RANGE, and what an advance does
to the ring map. -/

namespace Sys2Proof.Machine

open Sys2Proof

/-! ### The byte of a window index -/

theorem below16_eq_some {b : Byte} {w : Fin 16} (h : w.val = b.toNat) : below16 b = some w := by
  rw [below16, dif_pos (h ▸ w.isLt)]
  exact congrArg some (Fin.ext h.symm)

theorem below16_eq_none {b : Byte} (h : 15 < b.toNat) : below16 b = none := dif_neg (by omega)

/-! ### The start after a ROTATE -/

theorem newStart_absolute {w : WindowRecord} {value : Byte} (h : value.toNat < w.rotating) :
    newStart w 0 value = some value.toNat := by
  rw [newStart, if_pos rfl, if_pos h]

theorem newStart_advance (w : WindowRecord) {value : Byte} (h : 1 ≤ value.toNat) :
    newStart w 1 value = some ((w.ringS + value.toNat) % w.rotating) := by
  rw [newStart, if_neg (by decide), if_pos rfl, if_pos h]

/-- R127: a mode or a value out of range gives no start. -/
theorem newStart_eq_none {w : WindowRecord} {mode value : Byte}
    (h : (mode = 0 ∧ w.rotating ≤ value.toNat) ∨ (mode = 1 ∧ value = 0) ∨ (mode ≠ 0 ∧ mode ≠ 1)) :
    newStart w mode value = none := by
  rcases h with ⟨rfl, hvalue⟩ | ⟨rfl, rfl⟩ | ⟨habsolute, hadvance⟩
  · rw [newStart, if_pos rfl, if_neg (Nat.not_lt.mpr hvalue)]
  · rfl
  · rw [newStart, if_neg habsolute, if_neg hadvance]

/-! ### ROTATE -/

/-- R163: ROTATE taken in a frame is the rotation and its reply. -/
theorem exec_rotate_of_inCommand {s : State} (hc : s.inCommand) (index mode value : Byte) :
    exec (.rotate index mode value) s =
      .next ((s.rotate index mode value).1.replying (s.rotate index mode value).2.bytes) :=
  serve_command hc _

theorem State.rotate_of_index_gt {index : Byte} (h : 15 < index.toNat) (mode value : Byte)
    (s : State) : s.rotate index mode value = (s, .range) := by
  rw [State.rotate, below16_eq_none h]

/-- R127: with every check passed, the start alone is written. -/
theorem State.rotate_done {s : State} {index mode value : Byte} {w : Fin 16} {start : Nat}
    (hw : w.val = index.toNat) (hv : s.windows[w].valid = true) (hk : s.windows[w].kind = .ring)
    (hstart : newStart s.windows[w] mode value = some start) :
    s.rotate index mode value =
      (s.setWindow w { s.windows[w] with ringS := start }, .done [byteOf start]) := by
  simp only [State.rotate, below16_eq_some hw]
  rw [if_pos ⟨hv, hk⟩, hstart]

/-- R127: any one failing check leaves the state as it is and is answered RANGE. -/
theorem State.rotate_range {s : State} {index mode value : Byte} {w : Fin 16}
    (hw : w.val = index.toNat)
    (h : s.windows[w].valid = false ∨ s.windows[w].kind ≠ .ring ∨
      newStart s.windows[w] mode value = none) :
    s.rotate index mode value = (s, .range) := by
  simp only [State.rotate, below16_eq_some hw]
  split
  · next hring =>
    obtain ⟨hvalid, hkind⟩ := hring
    rcases h with hinvalid | hother | hnone
    · exact absurd hvalid (Bool.eq_false_iff.mp hinvalid)
    · exact absurd hkind hother
    · rw [hnone]
  · rfl

/-! ### Advances -/

/-- R129: advances by 1, reduced each time, give what one advance gives. -/
theorem iterate_advance_one (m start v : Nat) (hv : 1 ≤ v) :
    (fun start => (start + 1) % m)^[v] start = (start + v) % m := by
  induction v, hv using Nat.le_induction with
  | base => rfl
  | succ v _ ih => rw [Function.iterate_succ_apply', ih, Nat.mod_add_mod, Nat.add_assoc]

/-- R129: after an advance by `v`, a rotating block reaches what the block `v` further on reached before,
counted cyclically. -/
theorem ringBlock_advance {w : WindowRecord} {i : Nat} (hi : i < w.rotating) (v : Nat) :
    ringBlock { w with ringS := (w.ringS + v) % w.rotating } (w.ringH + i) =
      ringBlock w (w.ringH + (i + v) % w.rotating) := by
  have hbefore := ringBlock_rotating (Nat.mod_lt (i + v) (Nat.zero_lt_of_lt hi))
  have hafter := ringBlock_rotating (w := { w with ringS := (w.ringS + v) % w.rotating }) hi
  calc ringBlock { w with ringS := (w.ringS + v) % w.rotating } (w.ringH + i)
      = w.ringH + (i + (w.ringS + v) % w.rotating) % w.rotating := hafter
    _ = w.ringH + ((i + v) % w.rotating + w.ringS) % w.rotating := by
      rw [Nat.add_mod_mod, Nat.mod_add_mod, Nat.add_right_comm, Nat.add_assoc]
    _ = ringBlock w (w.ringH + (i + v) % w.rotating) := hbefore.symm

/-- Settles O35: the first clauses are the ends of the checks of `State.rotate`, with the starts of
`newStart`; the last are about advances alone and hold for every record. -/
theorem rotateMovesTheStart : Obligations.RotateMovesTheStart := by
  intro s index mode value hc
  rw [exec_rotate_of_inCommand hc]
  refine ⟨fun hindex => ?outside, fun w hw => ⟨?absolute, ?advance, fun hfail => ?range, fun v hv =>
    ⟨iterate_advance_one _ _ v hv, fun i hi => ringBlock_advance hi v⟩⟩⟩
  case outside =>
    rw [State.rotate_of_index_gt hindex]
    rfl
  case absolute =>
    rintro hvalid hkind rfl hvalue
    rw [State.rotate_done hw hvalid hkind (newStart_absolute hvalue)]
    rfl
  case advance =>
    rintro hvalid hkind rfl hvalue
    rw [State.rotate_done hw hvalid hkind (newStart_advance _ hvalue)]
    rfl
  case range =>
    rw [State.rotate_range hw (hfail.imp_right (Or.imp_right newStart_eq_none))]
    rfl

end Sys2Proof.Machine
end

section
/-! SUPPORT. The floor (R138, R145, R146): what is above it after a judgement, and the ends of the checks
of EVENT-FLOOR and EVENT-RESTORE. -/

namespace Sys2Proof.Machine

open Sys2Proof

/-! ### Levels -/

/-- R132: FAULT's level is fixed. -/
theorem State.EventsLegal.level_fault {s : State} (h : s.EventsLegal) : (s.source .fault).level = 8 :=
  (if_pos rfl).mp (h.source .fault).level

/-- R137: no other source's level is above 7. -/
theorem State.EventsLegal.level_le_seven {s : State} (h : s.EventsLegal) {src : Source}
    (hsrc : src ≠ .fault) : (s.source src).level ≤ 7 :=
  (if_neg hsrc).mp (h.source src).level

/-- The laws of the event controller ask of the floor only that it is at most 8. -/
theorem State.EventsLegal.withFloor {s : State} (h : s.EventsLegal) {floor : Nat} (hfloor : floor ≤ 8) :
    ({ s with events := { s.events with floor := floor } } : State).EventsLegal where
  source := h.source
  floor := hfloor
  depth := h.depth
  saved := h.saved

/-! ### Above the floor -/

/-- R138. -/
theorem State.aboveFloor_iff (s : State) (src : Source) :
    s.aboveFloor src = true ↔ (s.source src).pending = true ∧ s.events.floor < (s.source src).level := by
  rw [State.aboveFloor, Bool.and_eq_true, decide_eq_true_iff]

/-- R139. -/
theorem State.irqnWanted_iff (s : State) :
    s.irqnWanted = true ↔ ∃ src, s.aboveFloor src = true := by
  simp [State.irqnWanted, Source.mem_all]

/-- R135, R138: a judgement leaves every level and the floor, so a source is above the floor afterwards if
its condition holds and its level was above the floor before. -/
theorem State.aboveFloor_judge_iff (s : State) (src : Source) :
    s.judge.aboveFloor src = true ↔
      s.judgedPending src = true ∧ s.events.floor < (s.source src).level := by
  rw [State.aboveFloor_iff, State.source_judge, State.judge_events_floor]

/-- R139: IRQN after a judgement. -/
theorem State.judge_irqn_iff (s : State) :
    s.judge.events.irqn = true ↔ ∃ src, s.judge.aboveFloor src = true := by
  rw [s.eventsJudged_judge.irqn, State.irqnWanted_iff]

/-- R146: a floor of at most 7 does not mask FAULT. -/
theorem State.EventsLegal.judge_irqn_of_stalled {s : State} (h : s.EventsLegal)
    (hfloor : s.events.floor ≤ 7) (hstalled : s.mem.port = .stalled) : s.judge.events.irqn = true := by
  have hpending : s.judgedPending .fault = true := decide_eq_true hstalled
  have hlevel : s.events.floor < (s.source .fault).level := h.level_fault ▸ Nat.lt_succ_of_le hfloor
  exact s.judge_irqn_iff.mpr ⟨.fault, (s.aboveFloor_judge_iff .fault).mpr ⟨hpending, hlevel⟩⟩

/-- R146: a floor of 7 masks every source but FAULT. -/
theorem State.EventsLegal.aboveFloor_judge_eq_false {s : State} (h : s.EventsLegal)
    (hfloor : 7 ≤ s.events.floor) {src : Source} (hsrc : src ≠ .fault) :
    s.judge.aboveFloor src = false := by
  have hlevel : ¬ s.events.floor < (s.source src).level :=
    Nat.not_lt.mpr ((h.level_le_seven hsrc).trans hfloor)
  exact Bool.eq_false_iff.mpr fun habove => hlevel ((s.aboveFloor_judge_iff src).mp habove).2

/-! ### EVENT-FLOOR -/

/-- R163: EVENT-FLOOR taken in a frame is the write of the floor and its reply. -/
theorem exec_eventFloor_of_inCommand {s : State} (hc : s.inCommand) (value : Byte) :
    exec (.eventFloor value) s =
      .next ((s.writeFloor value).1.replying (s.writeFloor value).2.bytes) :=
  serve_command hc _

theorem State.writeFloor_done {value : Byte} (h : value.toNat ≤ 7) (s : State) :
    s.writeFloor value =
      (({ s with events := { s.events with floor := value.toNat } } : State).judge, .done []) :=
  if_pos h

theorem State.writeFloor_range {value : Byte} (h : 8 ≤ value.toNat) (s : State) :
    s.writeFloor value = (s, .range) :=
  if_neg (Nat.not_le.mpr h)

/-! ### EVENT-RESTORE -/

/-- R163: EVENT-RESTORE taken in a frame is the restored floor and its reply. -/
theorem exec_eventRestore_of_inCommand {s : State} (hc : s.inCommand) :
    exec .eventRestore s = .next (s.restoreFloor.1.replying s.restoreFloor.2.bytes) :=
  serve_command hc _

theorem State.restoreFloor_of_stack_cons {s : State} {top : Nat} {rest : List Nat}
    (h : s.events.stack = top :: rest) :
    s.restoreFloor =
      (({ s with events := { s.events with floor := top, stack := rest } } : State).judge,
        .done [byteOf top]) := by
  rw [State.restoreFloor, h]

theorem State.restoreFloor_of_stack_nil {s : State} (h : s.events.stack = []) :
    s.restoreFloor = (s, .range) := by
  rw [State.restoreFloor, h]

/-- Settles O40: the answers are the ends of the checks of `State.writeFloor` and `State.restoreFloor`; what
a floor masks follows from FAULT's level of 8 and the levels of at most 7 of the others. -/
theorem eventFloorAndRestore : Obligations.EventFloorAndRestore := by
  intro s hc
  refine ⟨fun value hvalue => ⟨?floorDone, fun hlegal hstalled => ?faultShows,
    fun hlegal hseven src hsrc => ?othersMasked⟩, fun value hvalue => ?floorRange,
    fun top rest hstack => ?restoreDone, fun hstack => ?restoreRange⟩
  case floorDone =>
    rw [exec_eventFloor_of_inCommand hc, State.writeFloor_done hvalue]
    rfl
  case faultShows =>
    exact (hlegal.withFloor (Nat.le_succ_of_le hvalue)).judge_irqn_of_stalled hvalue hstalled
  case othersMasked =>
    exact (hlegal.withFloor (Nat.le_succ_of_le hvalue)).aboveFloor_judge_eq_false hseven.ge hsrc
  case floorRange =>
    rw [exec_eventFloor_of_inCommand hc, State.writeFloor_range hvalue]
    rfl
  case restoreDone =>
    rw [exec_eventRestore_of_inCommand hc, State.restoreFloor_of_stack_cons hstack]
    rfl
  case restoreRange =>
    rw [exec_eventRestore_of_inCommand hc, State.restoreFloor_of_stack_nil hstack]
    rfl

end Sys2Proof.Machine
end

section
/-! SUPPORT. MONITOR-RESULT (R180): the two ends of the collection and the bytes of the record. -/

namespace Sys2Proof.Machine

open Sys2Proof

/-- R163: MONITOR-RESULT taken in a frame is the collection and its reply. -/
theorem exec_monitorResult_of_inCommand {s : State} (hc : s.inCommand) :
    exec .monitorResult s = .next (s.collectMonitor.1.replying s.collectMonitor.2.bytes) :=
  serve_command hc _

/-- R180: the collection of a DONE record resets it. -/
theorem State.collectMonitor_of_done {s : State} (h : s.service.monitor.state = .done) :
    s.collectMonitor = (s.setMonitor MonitorRecord.reset, .done s.service.monitor.bytes) :=
  if_pos h

/-- R180: an IDLE or BUSY record is replied and stays. -/
theorem State.collectMonitor_of_ne_done {s : State} (h : s.service.monitor.state ≠ .done) :
    s.collectMonitor = (s, .done s.service.monitor.bytes) :=
  if_neg h

/-- Section 10.10: the byte of the record's outcome, FFh for none (R181). -/
theorem optByte_monitorOutcome (outcome : Option MonitorOutcome) :
    optByte MonitorOutcome.byte outcome =
      match outcome with
      | none => 0xFF
      | some .ok => 0x00
      | some .holdTimeout => 0x06
      | some .memError => 0x08
      | some .memTimeout => 0x09 := by
  cases outcome with
  | none => rfl
  | some o => cases o <;> rfl

/-- Settles O38: the two ends of `State.collectMonitor`; they carry the same bytes, which were read before
the record is reset. -/
theorem monitorResultCollects : Obligations.MonitorResultCollects := by
  intro s hc m bytes
  have hbytes : (Reply.done m.bytes).bytes = bytes :=
    congrArg (fun code => 0x01 :: m.state.byte :: code :: be4 m.data)
      (optByte_monitorOutcome m.outcome)
  rw [exec_monitorResult_of_inCommand hc, ← hbytes]
  refine ⟨fun hdone => ?collected, fun hother => ?kept⟩
  case collected =>
    rw [State.collectMonitor_of_done hdone]
    rfl
  case kept =>
    rw [State.collectMonitor_of_ne_done hother]

end Sys2Proof.Machine
end

section
/-! SUPPORT. Unknown commands (R166): which code bytes name none of the commands of Table 10-12, and what a
frame with such a code does. -/

namespace Sys2Proof

/-! ### Code bytes -/

theorem ServiceCode.mem_all (c : ServiceCode) : c ∈ ServiceCode.all := by
  cases c <;> decide

/-- Table 10-12: the codes lie between STATUS's and DEFAULTS'. -/
theorem ServiceCode.byte_bounds (c : ServiceCode) : 0x10 ≤ c.byte.toNat ∧ c.byte.toNat ≤ 0x64 := by
  cases c <;> decide

theorem ServiceCode.byte_ne_zero (c : ServiceCode) : c.byte ≠ 0x00 := by
  intro hzero
  have hlow : 0x10 ≤ (0x00 : Byte).toNat := hzero ▸ c.byte_bounds.1
  exact absurd hlow (by decide)

theorem ServiceCode.byte_ne_ones (c : ServiceCode) : c.byte ≠ 0xFF := by
  intro hones
  have hhigh : (0xFF : Byte).toNat ≤ 0x64 := hones ▸ c.byte_bounds.2
  exact absurd hhigh (by decide)

/-- R166: a byte is no command's code when it is the code of none of the twenty-four. -/
theorem ServiceCode.ofByte_eq_none_iff {code : Byte} :
    ServiceCode.ofByte code = none ↔ ∀ c : ServiceCode, c.byte ≠ code := by
  rw [ServiceCode.ofByte, List.find?_eq_none]
  exact ⟨fun h c hbyte => h c c.mem_all (beq_iff_eq.mpr hbyte),
    fun h c _ hfound => h c (beq_iff_eq.mp hfound)⟩

/-- R166: no argument bytes are expected after such a code. -/
theorem decodeFrame_of_ofByte_eq_none {code : Byte} (h : ServiceCode.ofByte code = none)
    (more : List Byte) : decodeFrame (code :: more) = some (.unknownCommand code) := by
  rw [decodeFrame, h]

end Sys2Proof

namespace Sys2Proof.Machine

open Sys2Proof

/-! ### The command and the end of its reply -/

/-- R166: taken in a frame, such a code forms its reply and nothing else. -/
theorem exec_unknownCommand_of_inCommand {s : State} {code : Byte}
    (hcode : ServiceCode.ofByte code = none) (hc : s.inCommand) :
    exec (.unknownCommand code) s = .next (s.replying Reply.unknown.bytes) :=
  calc exec (.unknownCommand code) s
      = serve s (fun t => (t, .unknown)) := if_pos (Option.isNone_iff_eq_none.mpr hcode)
    _ = .next (s.replying Reply.unknown.bytes) := serve_command hc _

/-- Table 10-2: at the end of a reply formed in a frame the state is TRAIL, and the reply is sent. -/
theorem exec_endOfReply_replying (s : State) (bytes : List Byte) :
    exec .endOfReply (s.replying bytes) = .next
      { s with
        service :=
          { s.service with
            frame := .trail, bits := [], reply := [],
            shifted := s.service.shifted ++ bytes } } :=
  rfl

/-- Settles O46: a code that no command has is not found by `ServiceCode.ofByte`, on which both the frame
and the command turn. -/
theorem unknownCommandsAreAnswered : Obligations.UnknownCommandsAreAnswered := by
  intro s code
  refine ⟨fun hcode hc => ?answered, ?idleLine, fun more hcode => ?taken, ?trail⟩
  case answered =>
    exact exec_unknownCommand_of_inCommand (ServiceCode.ofByte_eq_none_iff.mpr hcode) hc
  case idleLine =>
    rintro (rfl | rfl) c
    · exact c.byte_ne_zero
    · exact c.byte_ne_ones
  case taken =>
    exact decodeFrame_of_ofByte_eq_none (ServiceCode.ofByte_eq_none_iff.mpr hcode) more
  case trail =>
    exact exec_endOfReply_replying s [0x04]

end Sys2Proof.Machine
end

section
/-! SUPPORT. WINDOW-WRITE (R5 to R11, R171): which records are accepted, what is stored of them, and that
what is stored is such as Chapter 1 asks. -/

namespace Sys2Proof.Machine

open Sys2Proof

/-! ### The enumerated bytes of a window record -/

theorem WindowKind.ofByte_eq_some_iff {b : Byte} {k : WindowKind} :
    WindowKind.ofByte b = some k ↔ b = k.byte := by
  constructor
  · unfold WindowKind.ofByte
    split_ifs <;> rintro ⟨⟩ <;> assumption
  · rintro rfl
    cases k <;> rfl

theorem Scan.ofByte_eq_some_iff {b : Byte} {x : Scan} : Scan.ofByte b = some x ↔ b = x.byte := by
  constructor
  · unfold Scan.ofByte
    split_ifs <;> rintro ⟨⟩ <;> assumption
  · rintro rfl
    cases x <;> rfl

theorem EndPolicy.ofByte_eq_some_iff {b : Byte} {x : EndPolicy} :
    EndPolicy.ofByte b = some x ↔ b = x.byte := by
  constructor
  · unfold EndPolicy.ofByte
    split_ifs <;> rintro ⟨⟩ <;> assumption
  · rintro rfl
    cases x <;> rfl

/-- Table 10-6, byte 1: the bytes 0 to 3 are the four kinds. -/
theorem WindowKind.exists_byte {b : Byte} (h : b.toNat ≤ 3) : ∃ k : WindowKind, b = k.byte := by
  have key : ∀ b : Byte, b.toNat ≤ 3 → (WindowKind.ofByte b).isSome = true := by decide
  obtain ⟨k, hk⟩ := Option.isSome_iff_exists.mp (key b h)
  exact ⟨k, WindowKind.ofByte_eq_some_iff.mp hk⟩

theorem WindowKind.byte_le (k : WindowKind) : k.byte.toNat ≤ 3 := by cases k <;> decide

theorem Scan.exists_byte {b : Byte} (h : b.toNat ≤ 1) : ∃ x : Scan, b = x.byte := by
  have key : ∀ b : Byte, b.toNat ≤ 1 → (Scan.ofByte b).isSome = true := by decide
  obtain ⟨x, hx⟩ := Option.isSome_iff_exists.mp (key b h)
  exact ⟨x, Scan.ofByte_eq_some_iff.mp hx⟩

theorem Scan.byte_le (x : Scan) : x.byte.toNat ≤ 1 := by cases x <;> decide

theorem EndPolicy.exists_byte {b : Byte} (h : b.toNat ≤ 1) : ∃ x : EndPolicy, b = x.byte := by
  have key : ∀ b : Byte, b.toNat ≤ 1 → (EndPolicy.ofByte b).isSome = true := by decide
  obtain ⟨x, hx⟩ := Option.isSome_iff_exists.mp (key b h)
  exact ⟨x, EndPolicy.ofByte_eq_some_iff.mp hx⟩

theorem EndPolicy.byte_le (x : EndPolicy) : x.byte.toNat ≤ 1 := by cases x <;> decide

/-! ### The checks, kind by kind -/

theorem commonOk_iff (b : WindowBytes) (kind : WindowKind) :
    commonOk b kind = true ↔
      b.base.toNat % 16 = 0 ∧ b.size.toNat % 16 = 0 ∧ 16 ≤ b.size.toNat ∧
        b.base.toNat + b.size.toNat ≤ addressSpace ∧ b.target.toNat % kind.targetAlign = 0 := by
  simp [commonOk, and_assoc]

theorem passOk_iff (b : WindowBytes) :
    passOk b = true ↔ b.target.toNat + b.size.toNat ≤ addressSpace := by
  simp [passOk]

theorem ringOk_iff (b : WindowBytes) :
    ringOk b = true ↔
      8 ≤ b.ringK.toNat ∧ b.ringK.toNat ≤ 16 ∧ 2 ≤ b.ringN.toNat ∧ b.ringN.toNat ≤ 256 ∧
        b.size.toNat = b.ringN.toNat * 2 ^ b.ringK.toNat ∧
        b.base.toNat % 2 ^ b.ringK.toNat = 0 ∧ b.target.toNat % 2 ^ b.ringK.toNat = 0 ∧
        b.ringH.toNat + b.ringT.toNat + 2 ≤ b.ringN.toNat ∧
        b.ringH.toNat + b.ringT.toNat + b.ringS.toNat < b.ringN.toNat ∧
        b.target.toNat + b.size.toNat ≤ addressSpace := by
  simp [ringOk, and_assoc]

theorem apertureOk_iff (b : WindowBytes) :
    apertureOk b = true ↔
      b.size.toNat = 16 ∧ 1 ≤ b.columns.toNat ∧ b.columns.toNat ≤ 4096 ∧ 1 ≤ b.rows.toNat ∧
        b.rows.toNat ≤ 65536 ∧ b.pitch.toNat % 4 = 0 ∧
        (b.rows.toNat = 1 ∨ 4 * b.columns.toNat ≤ b.pitch.toNat) ∧
        b.target.toNat + (b.rows.toNat - 1) * b.pitch.toNat + 4 * b.columns.toNat ≤
          addressSpace := by
  simp [apertureOk, and_assoc]

theorem bitopOk_iff (b : WindowBytes) :
    bitopOk b = true ↔
      b.size.toNat % 512 = 0 ∧ b.size.toNat ≤ 33554432 ∧
        b.target.toNat + 4 * (b.size.toNat / 512) ≤ addressSpace := by
  simp [bitopOk, and_assoc]

/-- The record that an accepted WINDOW-WRITE of each kind stores, its checks with it
(`windowOfBytes_eq_some_iff`). -/
inductive AcceptedAs (b : WindowBytes) (cls : Fin 8) : WindowRecord → Prop
  | pass (hk : b.kind = WindowKind.pass.byte) (hc : commonOk b .pass = true) (h : passOk b = true) :
    AcceptedAs b cls (windowCommon b .pass cls)
  | ring (hk : b.kind = WindowKind.ring.byte) (hc : commonOk b .ring = true) (h : ringOk b = true) :
    AcceptedAs b cls
      { windowCommon b .ring cls with
        ringK := b.ringK.toNat, ringN := b.ringN.toNat, ringH := b.ringH.toNat,
        ringT := b.ringT.toNat, ringS := b.ringS.toNat }
  | aperture {scan : Scan} {endPolicy : EndPolicy} (hk : b.kind = WindowKind.aperture.byte)
    (hc : commonOk b .aperture = true) (hscan : b.scan = scan.byte)
    (hend : b.endPolicy = endPolicy.byte) (h : apertureOk b = true) :
    AcceptedAs b cls
      { windowCommon b .aperture cls with
        columns := b.columns.toNat, rows := b.rows.toNat, pitch := b.pitch, scan := scan,
        endPolicy := endPolicy }
  | bitop (hk : b.kind = WindowKind.bitop.byte) (hc : commonOk b .bitop = true)
    (h : bitopOk b = true) : AcceptedAs b cls (windowCommon b .bitop cls)

theorem AcceptedAs.windowOfBytes_eq {b : WindowBytes} {cls : Fin 8} {r : WindowRecord}
    (hcls : below8 b.cls = some cls) (h : AcceptedAs b cls r) : windowOfBytes b = some r := by
  unfold windowOfBytes
  cases h with
  | pass hk hc h => simp only [WindowKind.ofByte_eq_some_iff.mpr hk, hcls, hc, h, if_true]
  | ring hk hc h => simp only [WindowKind.ofByte_eq_some_iff.mpr hk, hcls, hc, h, if_true]
  | aperture hk hc hscan hend h =>
    simp only [WindowKind.ofByte_eq_some_iff.mpr hk, Scan.ofByte_eq_some_iff.mpr hscan,
      EndPolicy.ofByte_eq_some_iff.mpr hend, hcls, hc, h, if_true]
  | bitop hk hc h => simp only [WindowKind.ofByte_eq_some_iff.mpr hk, hcls, hc, h, if_true]

theorem acceptedAs_of_windowOfBytes {b : WindowBytes} {r : WindowRecord}
    (h : windowOfBytes b = some r) : ∃ cls, below8 b.cls = some cls ∧ AcceptedAs b cls r := by
  unfold windowOfBytes at h
  split at h
  · next kind cls hkind hcls =>
    have hk := WindowKind.ofByte_eq_some_iff.mp hkind
    refine ⟨cls, hcls, ?_⟩
    split at h
    · next hc =>
      cases kind with
      | pass =>
        obtain ⟨hok, ⟨⟩⟩ := Option.ite_none_right_eq_some.mp h
        exact .pass hk hc hok
      | ring =>
        obtain ⟨hok, ⟨⟩⟩ := Option.ite_none_right_eq_some.mp h
        exact .ring hk hc hok
      | aperture =>
        simp only at h
        split at h
        · next hscan hend =>
          obtain ⟨hok, ⟨⟩⟩ := Option.ite_none_right_eq_some.mp h
          exact .aperture hk hc (Scan.ofByte_eq_some_iff.mp hscan)
            (EndPolicy.ofByte_eq_some_iff.mp hend) hok
        · cases h
      | bitop =>
        obtain ⟨hok, ⟨⟩⟩ := Option.ite_none_right_eq_some.mp h
        exact .bitop hk hc hok
    · cases h
  · cases h

/-- R6 to R11: WINDOW-WRITE stores a record exactly when the checks of its kind pass. -/
theorem windowOfBytes_eq_some_iff {b : WindowBytes} {r : WindowRecord} :
    windowOfBytes b = some r ↔ ∃ cls, below8 b.cls = some cls ∧ AcceptedAs b cls r :=
  ⟨acceptedAs_of_windowOfBytes, fun ⟨_, hcls, h⟩ => h.windowOfBytes_eq hcls⟩

/-! ### Accepted, stored, legal -/

/-- R6 to R10: the checks say what `Acceptable` says. -/
theorem AcceptedAs.acceptable {b : WindowBytes} {cls : Fin 8} {r : WindowRecord}
    (hcls : below8 b.cls = some cls) (h : AcceptedAs b cls r) : Acceptable b := by
  have hclass : b.cls.toNat ≤ 7 := by
    have := below8_eq_some_iff.mp hcls
    omega
  cases h with
  | pass hk hc h =>
    obtain ⟨hbase, hsize, hmin, htop, htarget⟩ := (commonOk_iff b _).mp hc
    have hpass := (passOk_iff b).mp h
    exact {
      kind := hk ▸ WindowKind.byte_le _, base := hbase, size := ⟨hsize, hmin⟩, top := htop
      target := by rw [hk]; exact htarget
      cls := hclass
      pass := fun _ => hpass
      ring := fun h1 => absurd (hk.symm.trans h1) (by decide)
      aperture := fun h2 => absurd (hk.symm.trans h2) (by decide)
      bitop := fun h3 => absurd (hk.symm.trans h3) (by decide) }
  | ring hk hc h =>
    obtain ⟨hbase, hsize, hmin, htop, htarget⟩ := (commonOk_iff b _).mp hc
    obtain ⟨hk8, hk16, hn2, hn256, hblocks, hb, ht, hzones, hstart, hroom⟩ := (ringOk_iff b).mp h
    exact {
      kind := hk ▸ WindowKind.byte_le _, base := hbase, size := ⟨hsize, hmin⟩, top := htop
      target := by rw [hk]; exact htarget
      cls := hclass
      pass := fun h0 => absurd (hk.symm.trans h0) (by decide)
      ring := fun _ => ⟨hk8, hk16, hn2, hn256, hblocks, hb, ht, by omega, by omega, hroom⟩
      aperture := fun h2 => absurd (hk.symm.trans h2) (by decide)
      bitop := fun h3 => absurd (hk.symm.trans h3) (by decide) }
  | @aperture scan endPolicy hk hc hscan hend h =>
    obtain ⟨hbase, hsize, hmin, htop, htarget⟩ := (commonOk_iff b _).mp hc
    obtain ⟨h16, hc1, hc4096, hr1, hrmax, hp4, hpitch, hroom⟩ := (apertureOk_iff b).mp h
    exact {
      kind := hk ▸ WindowKind.byte_le _, base := hbase, size := ⟨hsize, hmin⟩, top := htop
      target := by rw [hk]; exact htarget
      cls := hclass
      pass := fun h0 => absurd (hk.symm.trans h0) (by decide)
      ring := fun h1 => absurd (hk.symm.trans h1) (by decide)
      aperture := fun _ => ⟨h16, hc1, hc4096, hr1, hrmax, hp4, by omega,
        hscan ▸ Scan.byte_le scan, hend ▸ EndPolicy.byte_le endPolicy, hroom⟩
      bitop := fun h3 => absurd (hk.symm.trans h3) (by decide) }
  | bitop hk hc h =>
    obtain ⟨hbase, hsize, hmin, htop, htarget⟩ := (commonOk_iff b _).mp hc
    obtain ⟨h512, hmax, hroom⟩ := (bitopOk_iff b).mp h
    exact {
      kind := hk ▸ WindowKind.byte_le _, base := hbase, size := ⟨hsize, hmin⟩, top := htop
      target := by rw [hk]; exact htarget
      cls := hclass
      pass := fun h0 => absurd (hk.symm.trans h0) (by decide)
      ring := fun h1 => absurd (hk.symm.trans h1) (by decide)
      aperture := fun h2 => absurd (hk.symm.trans h2) (by decide)
      bitop := fun _ => ⟨h512, hmax, htarget, hroom⟩ }

/-- R6 to R10: a record that `Acceptable` admits passes the checks of its kind. -/
theorem Acceptable.acceptedAs {b : WindowBytes} (h : Acceptable b) {cls : Fin 8} :
    ∃ r, AcceptedAs b cls r := by
  obtain ⟨kind, hk⟩ := WindowKind.exists_byte h.kind
  have htarget := h.target
  have hcommon : commonOk b kind = true := by
    refine (commonOk_iff b kind).mpr ⟨h.base, h.size.1, h.size.2, h.top, ?_⟩
    rw [hk] at htarget
    cases kind <;> exact htarget
  cases kind with
  | pass => exact ⟨_, .pass hk hcommon ((passOk_iff b).mpr (h.pass hk))⟩
  | ring =>
    obtain ⟨hk8, hk16, hn2, hn256, hblocks, hb, ht, hzones, hstart, hroom⟩ := h.ring hk
    exact ⟨_, .ring hk hcommon ((ringOk_iff b).mpr
      ⟨hk8, hk16, hn2, hn256, hblocks, hb, ht, by omega, by omega, hroom⟩)⟩
  | aperture =>
    obtain ⟨h16, hc1, hc4096, hr1, hrmax, hp4, hpitch, hscan, hend, hroom⟩ := h.aperture hk
    obtain ⟨scan, hscan⟩ := Scan.exists_byte hscan
    obtain ⟨endPolicy, hend⟩ := EndPolicy.exists_byte hend
    exact ⟨_, .aperture hk hcommon hscan hend ((apertureOk_iff b).mpr
      ⟨h16, hc1, hc4096, hr1, hrmax, hp4, by omega, hroom⟩)⟩
  | bitop =>
    obtain ⟨h512, hmax, -, hroom⟩ := h.bitop hk
    exact ⟨_, .bitop hk hcommon ((bitopOk_iff b).mpr ⟨h512, hmax, hroom⟩)⟩

/-- R2, R11: what is stored. -/
theorem AcceptedAs.stores {b : WindowBytes} {cls : Fin 8} {r : WindowRecord}
    (hcls : below8 b.cls = some cls) (h : AcceptedAs b cls r) : r.Stores b := by
  have hclass := below8_eq_some_iff.mp hcls
  cases h with
  | pass hk _ _ =>
    exact ⟨rfl, hk.symm, rfl, rfl, rfl, hclass, ⟨rfl, rfl⟩, rfl,
      by rw [hk]; exact ⟨rfl, rfl, rfl, rfl, rfl⟩, by rw [hk]; exact ⟨rfl, rfl, rfl, rfl, rfl⟩⟩
  | ring hk _ _ =>
    exact ⟨rfl, hk.symm, rfl, rfl, rfl, hclass, ⟨rfl, rfl⟩, rfl,
      by rw [hk]; exact ⟨rfl, rfl, rfl, rfl, rfl⟩, by rw [hk]; exact ⟨rfl, rfl, rfl, rfl, rfl⟩⟩
  | aperture hk _ hscan hend _ =>
    exact ⟨rfl, hk.symm, rfl, rfl, rfl, hclass, ⟨rfl, rfl⟩, rfl,
      by rw [hk]; exact ⟨rfl, rfl, rfl, rfl, rfl⟩,
      by rw [hk]; exact ⟨rfl, rfl, rfl, hscan.symm, hend.symm⟩⟩
  | bitop hk _ _ =>
    exact ⟨rfl, hk.symm, rfl, rfl, rfl, hclass, ⟨rfl, rfl⟩, rfl,
      by rw [hk]; exact ⟨rfl, rfl, rfl, rfl, rfl⟩, by rw [hk]; exact ⟨rfl, rfl, rfl, rfl, rfl⟩⟩

/-- R2, R6 to R10: what is stored meets the law of the window table. -/
theorem AcceptedAs.legal {b : WindowBytes} {cls : Fin 8} {r : WindowRecord}
    (h : AcceptedAs b cls r) : r.Legal := by
  cases h with
  | pass _ hc h =>
    exact ⟨nofun, fun _ => (commonOk_iff b _).mp hc, fun _ _ => (passOk_iff b).mp h, nofun, nofun,
      nofun, fun _ => ⟨rfl, rfl, rfl, rfl, rfl⟩, fun _ => ⟨rfl, rfl, rfl, rfl, rfl⟩⟩
  | ring _ hc h =>
    exact ⟨nofun, fun _ => (commonOk_iff b _).mp hc, nofun, fun _ _ => (ringOk_iff b).mp h, nofun,
      nofun, fun hk => absurd rfl hk, fun _ => ⟨rfl, rfl, rfl, rfl, rfl⟩⟩
  | aperture _ hc _ _ h =>
    exact ⟨nofun, fun _ => (commonOk_iff b _).mp hc, nofun, nofun,
      fun _ _ => (apertureOk_iff b).mp h, nofun, fun _ => ⟨rfl, rfl, rfl, rfl, rfl⟩,
      fun hk => absurd rfl hk⟩
  | bitop _ hc h =>
    exact ⟨nofun, fun _ => (commonOk_iff b _).mp hc, nofun, nofun, nofun,
      fun _ _ => (bitopOk_iff b).mp h, fun _ => ⟨rfl, rfl, rfl, rfl, rfl⟩,
      fun _ => ⟨rfl, rfl, rfl, rfl, rfl⟩⟩

theorem Acceptable.windowOfBytes_eq {b : WindowBytes} (h : Acceptable b) :
    ∃ r, windowOfBytes b = some r ∧ r.Stores b := by
  have hclass := h.cls
  have hcls : below8 b.cls = some ⟨b.cls.toNat, by omega⟩ := below8_eq_some_iff.mpr rfl
  obtain ⟨r, hr⟩ := h.acceptedAs
  exact ⟨r, hr.windowOfBytes_eq hcls, hr.stores hcls⟩

theorem windowOfBytes_eq_none {b : WindowBytes} (h : ¬ Acceptable b) : windowOfBytes b = none := by
  refine Option.eq_none_iff_forall_ne_some.mpr fun r hr => h ?_
  obtain ⟨cls, hcls, hr⟩ := windowOfBytes_eq_some_iff.mp hr
  exact hr.acceptable hcls

theorem windowOfBytes_legal {b : WindowBytes} {r : WindowRecord} (h : windowOfBytes b = some r) :
    r.Legal := by
  obtain ⟨cls, -, hr⟩ := windowOfBytes_eq_some_iff.mp h
  exact hr.legal

/-- R3: an invalid window's record. -/
theorem WindowRecord.zeroed_legal : WindowRecord.zeroed.Legal :=
  ⟨fun _ => rfl, nofun, nofun, nofun, nofun, nofun, fun _ => ⟨rfl, rfl, rfl, rfl, rfl⟩,
    fun _ => ⟨rfl, rfl, rfl, rfl, rfl⟩⟩

/-- R9, R103: the cursor that comes with a stored record. -/
theorem WindowRecord.Stores.newCursor_eq {r : WindowRecord} {b : WindowBytes} (h : r.Stores b) :
    r.newCursor = if b.kind = 2 then some { row := 0, column := 0, exhausted := false } else none := by
  rw [← h.kind, WindowRecord.newCursor, h.valid]
  cases r.kind <;> rfl

/-! ### WINDOW-WRITE -/

/-- R163: WINDOW-WRITE taken in a frame is the write of the window and its reply. -/
theorem exec_windowWrite_of_inCommand {s : State} (hc : s.inCommand) (index : Byte)
    (b : WindowBytes) :
    exec (.windowWrite index b) s =
      .next ((s.writeWindow index b).1.replying (s.writeWindow index b).2.bytes) :=
  serve_command hc _

theorem State.writeWindow_of_index_gt {index : Byte} (h : 15 < index.toNat) (b : WindowBytes)
    (s : State) : s.writeWindow index b = (s, .range) := by
  rw [State.writeWindow, below16_eq_none h]

theorem State.writeWindow_invalid {index : Byte} {w : Fin 16} (hw : w.val = index.toNat)
    {b : WindowBytes} (hb : windowValid b = false) (s : State) :
    s.writeWindow index b = (s.storeWindow w WindowRecord.zeroed, .done []) := by
  simp only [State.writeWindow, below16_eq_some hw]
  rw [if_pos hb]

theorem State.writeWindow_stored {index : Byte} {w : Fin 16} (hw : w.val = index.toNat)
    {b : WindowBytes} (hb : windowValid b = true) {r : WindowRecord} (hr : windowOfBytes b = some r)
    (s : State) : s.writeWindow index b = (s.storeWindow w r, .done []) := by
  simp only [State.writeWindow, below16_eq_some hw]
  rw [if_neg (by simp [hb]), hr]

theorem State.writeWindow_refused {index : Byte} {w : Fin 16} (hw : w.val = index.toNat)
    {b : WindowBytes} (hb : windowValid b = true) (hr : windowOfBytes b = none) (s : State) :
    s.writeWindow index b = (s, .range) := by
  simp only [State.writeWindow, below16_eq_some hw]
  rw [if_neg (by simp [hb]), hr]

/-- Settles O33: the ends of the checks of `State.writeWindow`; a valid record is stored exactly when
`windowOfBytes` gives one, which is when it is acceptable. -/
theorem windowWriteStoresOrRefuses : Obligations.WindowWriteStoresOrRefuses := by
  intro s index b hc
  rw [exec_windowWrite_of_inCommand hc]
  refine ⟨fun hindex => ?outside, fun w hw => ⟨fun hvalid => ?invalid, fun hvalid hok => ?stored,
    fun hvalid hbad => ?refused⟩⟩
  case outside =>
    rw [State.writeWindow_of_index_gt hindex]
    rfl
  case invalid =>
    rw [State.writeWindow_invalid hw hvalid]
    rfl
  case stored =>
    obtain ⟨r, hr, hstores⟩ := hok.windowOfBytes_eq
    refine ⟨r, hstores, ?_⟩
    rw [State.writeWindow_stored hw hvalid hr, ← hstores.newCursor_eq]
    rfl
  case refused =>
    rw [State.writeWindow_refused hw hvalid (windowOfBytes_eq_none hbad)]
    rfl

end Sys2Proof.Machine
end

section
/-! SUPPORT. The decoder (R13 to R17, Table 1-3): the lookup, the checks in their order, and the verdict in a
window of each kind. -/

namespace Sys2Proof.Machine

open Sys2Proof

/-! ### The lookup (R1, R13) -/

/-- The search of a table finds the lowest number that has the property. -/
theorem find?_finRange_eq_some_iff {n : Nat} {p : Fin n → Bool} {w : Fin n} :
    (List.finRange n).find? p = some w ↔ p w = true ∧ ∀ v < w, p v = false := by
  rw [List.find?_eq_some_iff_getElem]
  refine and_congr_right fun _ => ⟨?_, fun h => ?_⟩
  · rintro ⟨i, hi, rfl, hbefore⟩ v hv
    have hv' : v.val < i := by simpa [Fin.lt_def] using hv
    simpa using hbefore v.val hv'
  · refine ⟨w.val, by simp, by simp, fun j hj => ?_⟩
    simpa using h ⟨j, by omega⟩ hj

theorem find?_finRange_eq_none_iff {n : Nat} {p : Fin n → Bool} :
    (List.finRange n).find? p = none ↔ ∀ v, p v = false := by
  simp

theorem WindowRecord.contains_iff (w : WindowRecord) (a : Nat) :
    w.contains a = true ↔ w.Covers a := by
  simp [WindowRecord.contains, WindowRecord.Covers, and_assoc]

theorem WindowRecord.contains_eq_false_iff (w : WindowRecord) (a : Nat) :
    w.contains a = false ↔ ¬ w.Covers a := by
  rw [← w.contains_iff, Bool.not_eq_true]

theorem State.lookup_eq_some_iff {s : State} {a : Nat} {w : Fin 16} :
    s.lookup a = some w ↔ s.windows[w].Covers a ∧ ∀ v < w, ¬ s.windows[v].Covers a := by
  simp only [State.lookup, find?_finRange_eq_some_iff, WindowRecord.contains_iff,
    WindowRecord.contains_eq_false_iff]

theorem State.lookup_eq_none_iff {s : State} {a : Nat} :
    s.lookup a = none ↔ ∀ w : Fin 16, ¬ s.windows[w].Covers a := by
  simp only [State.lookup, find?_finRange_eq_none_iff, WindowRecord.contains_eq_false_iff]

/-! ### The checks (R14 to R16) -/

theorem windowSpanOk_iff (w : WindowRecord) (r : Request) :
    windowSpanOk w r = true ↔ lastWord r < w.base.toNat + w.size.toNat := by
  simp [windowSpanOk]

theorem permitted_eq (w : WindowRecord) (r : Request) :
    permitted w r = (w.permit r.direction).getLsbD r.requester.val := by
  unfold permitted
  cases r.direction <;> rfl

theorem State.defaultSpanOk_iff (s : State) (r : Request) :
    s.defaultSpanOk r = true ↔
      (∀ i < r.length, ∀ w : Fin 16, ¬ s.windows[w].Covers (r.address.toNat + 4 * i)) ∧
        r.address.toNat + 4 * r.length ≤ addressSpace := by
  simp only [State.defaultSpanOk, Bool.and_eq_true, List.all_eq_true, List.mem_range,
    Option.isNone_iff_eq_none, State.lookup_eq_none_iff, decide_eq_true_iff]

/-! ### The order of the checks (Table 1-3) -/

theorem State.decode_split {s : State} {r : Request} {w : Fin 16}
    (hfound : s.lookup r.address.toNat = some w)
    (hspan : s.windows[w].base.toNat + s.windows[w].size.toNat ≤ lastWord r) :
    s.decode r = .refuse .split := by
  have hbad : windowSpanOk s.windows[w] r = false :=
    Bool.eq_false_iff.mpr fun h => Nat.not_lt.mpr hspan ((windowSpanOk_iff _ r).mp h)
  simp only [State.decode, hfound]
  rw [if_pos hbad]

theorem State.decode_denied {s : State} {r : Request} {w : Fin 16}
    (hfound : s.lookup r.address.toNat = some w)
    (hspan : lastWord r < s.windows[w].base.toNat + s.windows[w].size.toNat)
    (hpermit : (s.windows[w].permit r.direction).getLsbD r.requester.val = false) :
    s.decode r = .refuse .denied := by
  simp only [State.decode, hfound]
  rw [if_neg (by rw [(windowSpanOk_iff _ r).mpr hspan]; nofun),
    if_pos ((permitted_eq _ r).trans hpermit)]

/-- Past the span and the permit the window's kind decides (R17). -/
theorem State.Reaches.decode_eq {s : State} {r : Request} {w : Fin 16} (h : s.Reaches r w) :
    s.decode r = s.kindVerdict w r := by
  simp only [State.decode, h.found]
  rw [if_neg (by rw [(windowSpanOk_iff _ r).mpr h.span]; nofun),
    if_neg (by rw [permitted_eq, h.permit]; nofun)]

/-- The default route (R15, R16, R19). -/
theorem State.decode_default {s : State} {r : Request} (hnone : s.lookup r.address.toNat = none) :
    s.decode r =
      if s.defaultSpanOk r = false then .refuse .split
      else if s.settings.deny then .refuse .denied
      else .plain r.address := by
  rw [State.decode, hnone]

/-- Table 1-3: every way a decode can end. -/
theorem State.decode_cases (s : State) (r : Request) :
    (∃ why, s.decode r = .refuse why) ∨
      (s.lookup r.address.toNat = none ∧ s.defaultSpanOk r = true ∧ s.decode r = .plain r.address) ∨
      ∃ w, s.Reaches r w ∧ s.decode r = s.kindVerdict w r := by
  cases hlookup : s.lookup r.address.toNat with
  | none =>
    have hdecode := State.decode_default hlookup
    split_ifs at hdecode with hspan hdeny
    · exact .inl ⟨_, hdecode⟩
    · exact .inl ⟨_, hdecode⟩
    · exact .inr (.inl ⟨rfl, Bool.eq_true_of_not_eq_false hspan, hdecode⟩)
  | some w =>
    rcases Nat.lt_or_ge (lastWord r) (s.windows[w].base.toNat + s.windows[w].size.toNat) with
      hspan | hspan
    · cases hpermit : (s.windows[w].permit r.direction).getLsbD r.requester.val with
      | false => exact .inl ⟨_, State.decode_denied hlookup hspan hpermit⟩
      | true =>
        have hreaches : s.Reaches r w := ⟨hlookup, hspan, hpermit⟩
        exact .inr (.inr ⟨w, hreaches, hreaches.decode_eq⟩)
    · exact .inl ⟨_, State.decode_split hlookup hspan⟩

theorem State.kindVerdict_pass {s : State} {w : Fin 16} (hk : s.windows[w].kind = .pass)
    (r : Request) :
    s.kindVerdict w r = .plain (s.windows[w].target + (r.address - s.windows[w].base)) := by
  simp only [State.kindVerdict, hk]

/-- Settles O7: the lookup by the search of the table, the clauses on a window by the order of the checks,
the clause on the default route by its own check. -/
theorem decodeChecksInOrder : Obligations.DecodeChecksInOrder := by
  intro s
  refine ⟨fun a w => State.lookup_eq_some_iff, fun a => State.lookup_eq_none_iff,
    fun r w hfound => ⟨fun hspan => State.decode_split hfound hspan,
      fun hspan hpermit => State.decode_denied hfound hspan hpermit⟩,
    fun r w hreaches hpass => ?passed, fun r hnone => ⟨fun hbad => ?split, fun hclear htop => ?route⟩⟩
  case passed => rw [hreaches.decode_eq, State.kindVerdict_pass hpass]
  case split =>
    have hspan : s.defaultSpanOk r = false := by
      rw [Bool.eq_false_iff, Ne, State.defaultSpanOk_iff]
      rintro ⟨hclear, htop⟩
      rcases hbad with ⟨i, hi, w, hcovers⟩ | hpast
      · exact hclear i hi w hcovers
      · exact absurd htop (Nat.not_le.mpr hpast)
    rw [State.decode_default hnone, if_pos hspan]
  case route =>
    have hspan : s.defaultSpanOk r = true := (s.defaultSpanOk_iff r).mpr ⟨hclear, htop⟩
    rw [State.decode_default hnone, if_neg (by rw [hspan]; nofun)]

/-! ### RING (R123, R124, R126) -/

theorem State.kindVerdict_ring {s : State} {w : Fin 16} (hk : s.windows[w].kind = .ring)
    (r : Request) :
    s.kindVerdict w r =
      if ringContained s.windows[w] r then .plain (ringAddress s.windows[w] (offsetIn s.windows[w] r))
      else .refuse .split := by
  simp only [State.kindVerdict, hk]

theorem ringContained_iff (w : WindowRecord) (r : Request) :
    ringContained w r = true ↔
      offsetIn w r / w.blockSize = (lastWord r - w.base.toNat) / w.blockSize := by
  simp [ringContained]

/-- Settles O8: the block of the translation is `ringBlock`'s, in the fixed zones and in the rotating one. -/
theorem ringRequestsAreTranslated : Obligations.RingRequestsAreTranslated := by
  intro s r w hreaches hring x o b
  rw [hreaches.decode_eq, State.kindVerdict_ring hring]
  refine ⟨fun hedge => ?refused, fun hblock => ⟨ringBlock x b, ?translated,
    fun hfixed => ringBlock_fixed hfixed, fun hhead htail => ?rotating⟩⟩
  case refused =>
    rw [if_neg fun h => hedge ((ringContained_iff x r).mp h).symm]
  case translated =>
    rw [if_pos ((ringContained_iff x r).mpr hblock.symm)]
    rfl
  case rotating =>
    have hzone : ¬ x.FixedBlock b := not_or.mpr ⟨Nat.not_lt.mpr hhead, Nat.not_le.mpr htail⟩
    exact if_neg hzone

/-! ### APERTURE (R106 to R113, R115) -/

theorem State.kindVerdict_aperture {s : State} {w : Fin 16} (hk : s.windows[w].kind = .aperture)
    (r : Request) :
    s.kindVerdict w r =
      if 1 < r.length then .refuse .unsupported else s.apertureVerdict w r := by
  simp only [State.kindVerdict, hk]

/-- R106, R107, R110, R115: the two port words that claim a cell. -/
theorem State.apertureVerdict_stream {s : State} {w : Fin 16} {r : Request}
    (ho : offsetIn s.windows[w] r = 0 ∨ offsetIn s.windows[w] r = 4) :
    s.apertureVerdict w r =
      if (s.cursorOf w).exhausted then .refuse .apertureEnd
      else .claim w (cellAddress s.windows[w] (s.cursorOf w).row (s.cursorOf w).column)
        (decide (offsetIn s.windows[w] r = 0 ∨ r.direction = .write)) := by
  unfold State.apertureVerdict
  rcases ho with ho | ho
  · simp only [ho, true_or, decide_true]
  · simp only [ho, OfNat.ofNat_ne_zero, false_or]

/-- R108, R109: the port word that is answered at decode. -/
theorem State.apertureVerdict_position {s : State} {w : Fin 16} {r : Request}
    (ho : offsetIn s.windows[w] r = 8) :
    s.apertureVerdict w r = if r.direction = .read then .position w else .rewind w := by
  unfold State.apertureVerdict
  simp only [ho]

/-- R17: every other offset. -/
theorem State.apertureVerdict_other {s : State} {w : Fin 16} {r : Request}
    (h0 : offsetIn s.windows[w] r ≠ 0) (h4 : offsetIn s.windows[w] r ≠ 4)
    (h8 : offsetIn s.windows[w] r ≠ 8) : s.apertureVerdict w r = .refuse .unsupported := by
  unfold State.apertureVerdict
  split
  · next ho => exact absurd ho h0
  · next ho => exact absurd ho h4
  · next ho => exact absurd ho h8
  · rfl

theorem atLastCell_iff (w : WindowRecord) (c : Cursor) :
    atLastCell w c = true ↔ c.row = w.rows - 1 ∧ c.column = w.columns - 1 := by
  simp [atLastCell]

/-- R112: a claim of the last cell with WRAP. -/
theorem advanceCursor_wrap {w : WindowRecord} {c : Cursor} (hrow : c.row = w.rows - 1)
    (hcolumn : c.column = w.columns - 1) (hwrap : w.endPolicy = .wrap) :
    advanceCursor w c = Cursor.start := by
  rw [advanceCursor, if_pos ((atLastCell_iff w c).mpr ⟨hrow, hcolumn⟩), hwrap]

/-- R113: a claim of the last cell with STOP. -/
theorem advanceCursor_stop {w : WindowRecord} {c : Cursor} (hrow : c.row = w.rows - 1)
    (hcolumn : c.column = w.columns - 1) (hstop : w.endPolicy = .stop) :
    advanceCursor w c = { c with exhausted := true } := by
  rw [advanceCursor, if_pos ((atLastCell_iff w c).mpr ⟨hrow, hcolumn⟩), hstop]

/-- R111, ROW_MAJOR: a claim of any other cell. -/
theorem advanceCursor_rowMajor {w : WindowRecord} {c : Cursor} (hscan : w.scan = .rowMajor)
    (hlast : ¬ (c.row = w.rows - 1 ∧ c.column = w.columns - 1)) :
    advanceCursor w c =
      if c.column < w.columns - 1 then { c with column := c.column + 1 }
      else { c with row := c.row + 1, column := 0 } := by
  rw [advanceCursor, if_neg (mt (atLastCell_iff w c).mp hlast), hscan]

/-- R111, COLUMN_MAJOR: a claim of any other cell. -/
theorem advanceCursor_columnMajor {w : WindowRecord} {c : Cursor} (hscan : w.scan = .columnMajor)
    (hlast : ¬ (c.row = w.rows - 1 ∧ c.column = w.columns - 1)) :
    advanceCursor w c =
      if c.row < w.rows - 1 then { c with row := c.row + 1 }
      else { c with row := 0, column := c.column + 1 } := by
  rw [advanceCursor, if_neg (mt (atLastCell_iff w c).mp hlast), hscan]

/-- Settles O10: the decode by the three lemmas on the port words, the advance by those on the last cell and
on the two scan orders. -/
theorem apertureRequestsAreDecoded : Obligations.ApertureRequestsAreDecoded := by
  constructor
  · intro s r w hreaches haperture x o c cell
    have hone (hlength : r.length = 1) : s.decode r = s.apertureVerdict w r := by
      rw [hreaches.decode_eq, State.kindVerdict_aperture haperture, if_neg (by omega)]
    refine ⟨fun hlong => ?long, fun hlength h12 => ?twelve, fun hlength h8 hread => ?position,
      fun hlength h8 hwrite => ?rewind, fun hlength ho hend => ?exhausted,
      fun hlength h0 hready => ?stream, fun hlength h4 hready => ?peek⟩
    case long => rw [hreaches.decode_eq, State.kindVerdict_aperture haperture, if_pos hlong]
    case twelve =>
      have ho : offsetIn s.windows[w] r = 12 := h12
      rw [hone hlength, State.apertureVerdict_other (by omega) (by omega) (by omega)]
    case position => rw [hone hlength, State.apertureVerdict_position h8, if_pos hread]
    case rewind =>
      rw [hone hlength, State.apertureVerdict_position h8, if_neg (by rw [hwrite]; nofun)]
    case exhausted => rw [hone hlength, State.apertureVerdict_stream ho, if_pos hend]
    case stream =>
      rw [hone hlength, State.apertureVerdict_stream (.inl h0), if_neg (Bool.not_eq_true _ ▸ hready),
        decide_eq_true (.inl h0)]
      rfl
    case peek =>
      have ho : offsetIn s.windows[w] r = 4 := h4
      rw [hone hlength, State.apertureVerdict_stream (.inr h4),
        if_neg (Bool.not_eq_true _ ▸ hready)]
      simp only [ho, OfNat.ofNat_ne_zero, false_or]
      rfl
  · intro w c hinside hready
    refine ⟨fun hscan hcolumn => ?alongRow, fun hscan hcolumn hrow => ?nextRow,
      fun hscan hrow => ?alongColumn, fun hscan hrow hcolumn => ?nextColumn,
      fun hrow hcolumn hwrap => ?wrap, fun hrow hcolumn hstop => ?stop⟩
    case alongRow =>
      rw [advanceCursor_rowMajor hscan (by omega), if_pos hcolumn, hready]
    case nextRow =>
      rw [advanceCursor_rowMajor hscan (by omega), if_neg (by omega), hready]
    case alongColumn =>
      rw [advanceCursor_columnMajor hscan (by omega), if_pos hrow, hready]
    case nextColumn =>
      rw [advanceCursor_columnMajor hscan (by omega), if_neg (by omega), hready]
    case wrap => exact advanceCursor_wrap hrow hcolumn hwrap
    case stop => exact advanceCursor_stop hrow hcolumn hstop

/-! ### BITOP (R85) -/

theorem State.kindVerdict_bitop {s : State} {w : Fin 16} (hk : s.windows[w].kind = .bitop)
    (r : Request) :
    s.kindVerdict w r =
      if 1 < r.length then .refuse .unsupported
      else .bit (aliasWord s.windows[w] (offsetIn s.windows[w] r))
        (aliasOp (offsetIn s.windows[w] r)) (aliasBit (offsetIn s.windows[w] r)) := by
  simp only [State.kindVerdict, hk]

/-- Table 5-1: the operations in the order of their numbers. -/
theorem BitOp.byte_ofIndex {k : Nat} (hk : k < 4) : (BitOp.ofIndex k).byte.toNat = k := by
  interval_cases k <;> rfl

theorem BitOp.ofIndex_byte (op : BitOp) : BitOp.ofIndex op.byte.toNat = op := by
  cases op <;> rfl

theorem BitOp.byte_lt (op : BitOp) : op.byte.toNat < 4 := by cases op <;> decide

/-- Table 5-1: the word has 512 bytes of offsets, which are 128 words of 4 operations on 32 bits. -/
theorem aliasOp_byte (o : Nat) : (aliasOp o).byte.toNat = o % 512 / 4 / 32 :=
  BitOp.byte_ofIndex (by unfold aliasNumber; omega)

/-- R85: the offset of a word index, an operation and a bit. -/
def aliasOffset (j : Nat) (op : BitOp) (bit : Fin 32) : Nat :=
  512 * j + 4 * (32 * op.byte.toNat + bit.val)

/-- R85: an offset is determined by what it names. -/
theorem eq_aliasOffset (o : Nat) (ho : o % 4 = 0) :
    o = aliasOffset (o / 512) (aliasOp o) (aliasBit o) := by
  have hbit : (aliasBit o).val = o % 512 / 4 % 32 := rfl
  rw [aliasOffset, aliasOp_byte, hbit]
  omega

theorem aliasOffset_names (j : Nat) (op : BitOp) (bit : Fin 32) :
    aliasOffset j op bit % 4 = 0 ∧ aliasOffset j op bit / 512 = j ∧
      aliasOp (aliasOffset j op bit) = op ∧ aliasBit (aliasOffset j op bit) = bit := by
  have hop := op.byte_lt
  have hbit := bit.isLt
  have hnumber : aliasNumber (aliasOffset j op bit) = 32 * op.byte.toNat + bit.val := by
    unfold aliasNumber aliasOffset
    omega
  refine ⟨by unfold aliasOffset; omega, by unfold aliasOffset; omega, ?_, Fin.ext ?_⟩
  · rw [aliasOp, hnumber, show (32 * op.byte.toNat + bit.val) / 32 = op.byte.toNat by omega,
      op.ofIndex_byte]
  · change aliasNumber (aliasOffset j op bit) % 32 = bit.val
    rw [hnumber]
    omega

/-- Settles O11: `aliasOffset` is the offset of a word, an operation and a bit, and the only one. -/
theorem bitopRequestsAreMapped : Obligations.BitopRequestsAreMapped := by
  constructor
  · intro s r w hreaches hbitop x o
    rw [hreaches.decode_eq, State.kindVerdict_bitop hbitop]
    refine ⟨fun hlong => if_pos hlong, fun hlength => ⟨aliasOp o, aliasBit o, ?_, aliasOp_byte o, rfl⟩⟩
    rw [if_neg (by omega)]
    rfl
  · intro size j op bit hsize hj
    have hop := op.byte_lt
    have hbit := bit.isLt
    obtain ⟨haligned, hword, hnamesOp, hnamesBit⟩ := aliasOffset_names j op bit
    have hin : aliasOffset j op bit < size := by
      unfold aliasOffset
      omega
    refine ⟨aliasOffset j op bit, ⟨hin, haligned, hword, hnamesOp, hnamesBit⟩, ?_⟩
    rintro q ⟨-, hq, rfl, rfl, rfl⟩
    exact eq_aliasOffset q hq

end Sys2Proof.Machine
end

section
/-! SUPPORT. The time base (log 2, log 3): when each timer's event is due, what `k` µs change, and how an
expiry command lets time run on. -/

namespace Sys2Proof.Machine

open Sys2Proof

/-! ### The time left to each event -/

theorem Entry.holdLeft_eq_some_iff {e : Entry} {k : Nat} :
    e.holdLeft = some k ↔
      e.state = .waiting ∧ e.holdLimit ≠ 0 ∧ e.holdLimit - e.holdTimer = k := by
  simp [Entry.holdLeft, and_assoc]

theorem TagRecord.responseLeft_eq_some_iff {r : TagRecord} {k : Nat} :
    r.responseLeft = some k ↔ ∃ o p i, r = .busy o p (some i) ∧ i.limit - i.timer = k := by
  cases r with
  | free => simp [TagRecord.responseLeft]
  | quarantined => simp [TagRecord.responseLeft]
  | busy o p i => cases i <;> simp [TagRecord.responseLeft]

theorem TagRecord.responseLeft_eq_none_iff {r : TagRecord} :
    r.responseLeft = none ↔ ∀ o p i, r ≠ .busy o p (some i) := by
  cases r with
  | free => simp [TagRecord.responseLeft]
  | quarantined => simp [TagRecord.responseLeft]
  | busy o p i => cases i <;> simp [TagRecord.responseLeft]

theorem State.intervalLeft_eq_some_iff {s : State} {k : Nat} :
    s.intervalLeft = some k ↔
      s.resetAsserted = false ∧ s.classTable.length - s.classTable.timer = k := by
  simp [State.intervalLeft]

theorem State.recoveryLeft_eq_some_iff {s : State} {k : Nat} :
    s.recoveryLeft = some k ↔
      s.mem.port = .recovering ∧ recoveryLimit - s.mem.recoveryTimer = k := by
  simp [State.recoveryLeft]

theorem State.drainLeft_eq_some_iff {s : State} {k : Nat} :
    s.drainLeft = some k ↔
      s.drain.state = .draining ∧ 1000 * s.drain.limit - s.drain.timer = k := by
  simp [State.drainLeft]

/-- The timers whose events `State.timesLeft` counts. -/
theorem State.mem_timesLeft_iff {s : State} {k : Nat} :
    k ∈ s.timesLeft ↔
      (∃ e ∈ s.queue.entries, e.holdLeft = some k) ∨
      (∃ n : Fin 8, s.mem.tags[n].responseLeft = some k) ∨ s.intervalLeft = some k ∨
      s.recoveryLeft = some k ∨ s.drainLeft = some k := by
  have htags : (∃ r ∈ s.mem.tags, r.responseLeft = some k) ↔
      ∃ n : Fin 8, s.mem.tags[n].responseLeft = some k := by
    constructor
    · rintro ⟨r, hr, hk⟩
      obtain ⟨n, hn, rfl⟩ := Vector.getElem_of_mem hr
      exact ⟨⟨n, hn⟩, hk⟩
    · rintro ⟨n, hk⟩
      exact ⟨_, Vector.getElem_mem n.isLt, hk⟩
  simp only [State.timesLeft, List.mem_append, List.mem_filterMap, Vector.mem_toList_iff, htags,
    Option.mem_toList, or_assoc]

/-! ### What is due -/

/-- R37, R76, R55, R82, R154: the expiries due at one moment. -/
theorem State.mem_due_iff {s : State} {i : Instr} :
    i ∈ s.due ↔
      (∃ e ∈ s.queue.entries, e.holdLeft = some 0 ∧ i = .holdTimerExpiry e.requester e.tag) ∨
      (∃ n : Fin 8, s.mem.tags[n].responseLeft = some 0 ∧ i = .responseTimerExpiry n) ∨
      (s.intervalLeft = some 0 ∧ i = .intervalExpiry) ∨
      (s.recoveryLeft = some 0 ∧ i = .endOfRecovery) ∨
      (s.drainLeft = some 0 ∧ i = .drainTimerExpiry) := by
  simp only [State.due, List.mem_append, List.mem_map, List.mem_filter, List.mem_finRange, true_and,
    decide_eq_true_eq, List.mem_ite_nil_right, List.mem_singleton, or_assoc, and_assoc,
    @eq_comm Instr _ i]

/-- With no expiry due, no timer has reached its limit. -/
theorem State.nextWithin_one_of_due_eq_nil {s : State} (h : s.due = []) :
    s.nextWithin 1 = true := by
  have hnone : ∀ i, i ∉ s.due := fun i => h ▸ List.not_mem_nil
  refine s.nextWithin_iff 1 |>.mpr fun k hk => Nat.one_le_iff_ne_zero.mpr ?_
  rintro rfl
  rcases State.mem_timesLeft_iff.mp hk with ⟨e, he, h0⟩ | ⟨n, h0⟩ | h0 | h0 | h0
  · exact hnone _ (State.mem_due_iff.mpr (.inl ⟨e, he, h0, rfl⟩))
  · exact hnone _ (State.mem_due_iff.mpr (.inr (.inl ⟨n, h0, rfl⟩)))
  · exact hnone _ (State.mem_due_iff.mpr (.inr (.inr (.inl ⟨h0, rfl⟩))))
  · exact hnone _ (State.mem_due_iff.mpr (.inr (.inr (.inr (.inl ⟨h0, rfl⟩)))))
  · exact hnone _ (State.mem_due_iff.mpr (.inr (.inr (.inr (.inr ⟨h0, rfl⟩)))))

theorem State.ownExpiry_of_due_eq_nil {s : State} (h : s.due = []) : s.ownExpiry = none := by
  simp [State.ownExpiry, h]

/-- Whatever the free value is, the expiry taken is one of those due. -/
theorem State.ownExpiry_of_due_ne_nil {s : State} (h : s.due ≠ []) :
    ∃ i ∈ s.due, s.ownExpiry = some i := by
  have hlength : 0 < s.due.length := List.length_pos_of_ne_nil h
  have hindex := Nat.mod_lt (Config.expiryChoice s.freeCount) hlength
  exact ⟨s.due[Config.expiryChoice s.freeCount % s.due.length], List.getElem_mem hindex, by
    simp [State.ownExpiry, hindex, Nat.pos_iff_ne_zero.mp hlength]⟩

/-! ### `k` µs -/

/-- An entry `k` µs later (R35). -/
def Entry.aged (k : Nat) (e : Entry) : Entry := { e with holdTimer := e.holdTimer + k }

theorem State.advance_of_released {s : State} (h : s.resetAsserted = false) (k : Nat) :
    s.advance k =
      { s with
        queue := { s.queue with entries := s.queue.entries.map (Entry.aged k) },
        classTable := { s.classTable with timer := s.classTable.timer + k },
        mem :=
          { s.mem with
            tags := Vector.ofFn fun n => s.mem.tags[n].advance k,
            recoveryTimer :=
              if s.mem.port = .recovering then s.mem.recoveryTimer + k else s.mem.recoveryTimer },
        drain :=
          { s.drain with
            timer := if s.drain.state = .draining then s.drain.timer + k else s.drain.timer } } := by
  rw [State.advance, if_neg (by simp [h])]
  rfl

theorem State.advance_entries {s : State} (h : s.resetAsserted = false) (k : Nat) :
    (s.advance k).queue.entries = s.queue.entries.map (Entry.aged k) := by
  rw [State.advance_of_released h]

theorem State.advance_tag {s : State} (h : s.resetAsserted = false) (k : Nat) (n : Fin 8) :
    (s.advance k).mem.tags[n] = s.mem.tags[n].advance k := by
  rw [State.advance_of_released h]
  simp

theorem TagRecord.advance_idle {r : TagRecord} (h : ∀ o p i, r ≠ .busy o p (some i)) (k : Nat) :
    r.advance k = r := by
  cases r with
  | free => rfl
  | quarantined => rfl
  | busy o p i =>
    cases i with
    | none => rfl
    | some i => exact absurd rfl (h o p i)

theorem TagRecord.advance_zero (r : TagRecord) : r.advance 0 = r := by
  cases r with
  | free => rfl
  | quarantined => rfl
  | busy o p i => cases i <;> rfl

theorem State.advance_zero (s : State) : s.advance 0 = s := by
  by_cases h : s.resetAsserted = true
  · exact State.advance_asserted h 0
  · have hentries : s.queue.entries.map (Entry.aged 0) = s.queue.entries := List.map_id _
    have htags : (Vector.ofFn fun n : Fin 8 => s.mem.tags[n].advance 0) = s.mem.tags := by
      ext n hn
      simp [TagRecord.advance_zero]
    rw [State.advance_of_released (Bool.eq_false_iff.mpr h), hentries, htags]
    simp


theorem State.findEntry_advance {s : State} (h : s.resetAsserted = false) (k : Nat) (id : EntryId) :
    (s.advance k).findEntry id = (s.findEntry id).map (Entry.aged k) := by
  rw [State.findEntry, State.advance_entries h, List.find?_map]
  rfl

/-- The step on an empty queue with nothing due (log 2). -/
theorem step_of_ownExpiry_none {s : State} (h : s.pending = []) (hown : s.ownExpiry = none) :
    step s = .next (s.advance 1) := by
  rw [step, h]
  simp only [hown]

/-- The step on an empty queue with an expiry due (log 2, log 3). -/
theorem step_of_ownExpiry_some {s : State} (h : s.pending = []) {i : Instr}
    (hown : s.ownExpiry = some i) : step s = exec i s.countFree := by
  rw [step, h]
  simp only [hown]

/-- Settles O2: the two ends of the step by `State.ownExpiry`, the members of the due list timer by timer,
and the fields that an advance writes. -/
theorem emptyQueueStepIsTheTimeBase : Obligations.EmptyQueueStepIsTheTimeBase := by
  intro s
  refine ⟨fun hpending hdue => ?quiet, fun hpending hdue => ?taken, fun i => ?due,
    fun hreset k => State.advance_asserted hreset k, fun hreset k => ⟨fun n o p x htag => ?runs,
      fun n hidle => ?stays, ?fields⟩⟩
  case quiet => exact step_of_ownExpiry_none hpending (State.ownExpiry_of_due_eq_nil hdue)
  case taken =>
    obtain ⟨i, hi, hown⟩ := State.ownExpiry_of_due_ne_nil hdue
    exact ⟨i, hi, step_of_ownExpiry_some hpending hown⟩
  case due =>
    simp only [State.mem_due_iff, Entry.holdLeft_eq_some_iff, TagRecord.responseLeft_eq_some_iff,
      State.intervalLeft_eq_some_iff, State.recoveryLeft_eq_some_iff, State.drainLeft_eq_some_iff,
      Nat.sub_eq_zero_iff_le, recoveryLimit, and_assoc]
    simp only [← exists_and_right, and_assoc]
  case runs => rw [State.advance_tag hreset, htag, TagRecord.advance]
  case stays => rw [State.advance_tag hreset, TagRecord.advance_idle hidle]
  case fields =>
    rw [State.advance_of_released hreset]
    rfl

/-! ### Expiry commands -/

/-- What each expiry does at its own moment. -/
def expiryEffect : Instr → State → State
  | .holdTimerExpiry requester tag => State.holdExpired { requester := requester, tag := tag }
  | .responseTimerExpiry n => State.timeOut n
  | .intervalExpiry => State.endInterval
  | .endOfRecovery => State.recover
  | .drainTimerExpiry => State.stick
  | _ => id

theorem exec_expiry {i : Instr} (h : isExpiry i = true) (s : State) :
    exec i s = .next (expire (s.expiryLeft i) (expiryEffect i) s) := by
  cases i with
  | holdTimerExpiry requester tag => rfl
  | responseTimerExpiry n => rfl
  | intervalExpiry => rfl
  | endOfRecovery => rfl
  | drainTimerExpiry => rfl
  | _ => cases h

/-- An expiry whose timer is at its limit happens at once. -/
theorem expire_zero (f : State → State) (s : State) : expire (some 0) f s = f s := by
  have hnow : s.nextWithin 0 = true := (s.nextWithin_iff 0).mpr fun t _ => Nat.zero_le t
  rw [expire, if_pos hnow, State.advance_zero]

theorem TagRecord.responseLeft_advance (k : Nat) (r : TagRecord) :
    (r.advance k).responseLeft = r.responseLeft.map (· - k) := by
  cases r with
  | free => rfl
  | quarantined => rfl
  | busy o p i =>
    cases i with
    | none => rfl
    | some i => exact congrArg some (Nat.sub_sub _ _ _).symm

theorem Entry.holdLeft_aged (k : Nat) (e : Entry) : (e.aged k).holdLeft = e.holdLeft.map (· - k) := by
  by_cases h : e.state = .waiting ∧ e.holdLimit ≠ 0
  · calc (e.aged k).holdLeft
        = some (e.holdLimit - (e.holdTimer + k)) := if_pos h
      _ = (some (e.holdLimit - e.holdTimer)).map (· - k) := congrArg some (Nat.sub_sub ..).symm
      _ = e.holdLeft.map (· - k) := by rw [Entry.holdLeft, if_pos h]
  · calc (e.aged k).holdLeft
        = none := if_neg h
      _ = e.holdLeft.map (· - k) := by rw [Entry.holdLeft, if_neg h, Option.map_none]

/-- Every running timer has `k` µs less to go after `k` µs. -/
theorem State.expiryLeft_advance {s : State} (h : s.resetAsserted = false) (k : Nat) {i : Instr}
    (hi : isExpiry i = true) : (s.advance k).expiryLeft i = (s.expiryLeft i).map (· - k) := by
  cases i with
  | holdTimerExpiry requester tag =>
    simp only [State.expiryLeft, State.findEntry_advance h]
    cases s.findEntry { requester := requester, tag := tag } with
    | none => rfl
    | some e => exact e.holdLeft_aged k
  | responseTimerExpiry n =>
    simp only [State.expiryLeft, State.advance_tag h, TagRecord.responseLeft_advance]
  | intervalExpiry =>
    simp [State.expiryLeft, State.intervalLeft, State.advance_of_released h, h, Nat.sub_sub]
  | endOfRecovery =>
    simp only [State.expiryLeft, State.recoveryLeft, State.advance_of_released h]
    split_ifs <;> simp [Nat.sub_sub]
  | drainTimerExpiry =>
    simp only [State.expiryLeft, State.drainLeft, State.advance_of_released h]
    split_ifs <;> simp [Nat.sub_sub]
  | _ => cases hi

/-- Settles O3: with `k` µs left and no earlier event both sides are the expiry's effect `k` µs later; the
timer then has 0 µs left. -/
theorem expiryCommandsLetTimeRunOn : Obligations.ExpiryCommandsLetTimeRunOn := by
  intro i s hi
  rw [exec_expiry hi]
  refine ⟨fun hnone => ?stopped, fun k hk => ⟨fun hnext => ?happens, fun hearlier => ?ignored⟩⟩
  case stopped => rw [hnone, expire]
  case happens =>
    by_cases hreset : s.resetAsserted = true
    · rw [State.advance_asserted hreset, exec_expiry hi]
    · have hleft : (s.advance k).expiryLeft i = some 0 := by
        rw [State.expiryLeft_advance (Bool.eq_false_iff.mpr hreset) k hi, hk, Option.map_some,
          Nat.sub_self]
      rw [exec_expiry hi, hleft, expire_zero, hk, expire, if_pos ((s.nextWithin_iff k).mpr hnext)]
  case ignored =>
    obtain ⟨t, ht, hlt⟩ := hearlier
    have hlate : ¬ s.nextWithin k = true := fun h =>
      absurd ((s.nextWithin_iff k).mp h t ht) (Nat.not_le.mpr hlt)
    rw [hk, expire, if_neg hlate]

end Sys2Proof.Machine
end

section
/-! SUPPORT. What a step can do: every command is a chain of small changes, each with its guard. A law that
every small change keeps is kept by every step (`step_keeps`). -/

namespace Sys2Proof.Machine

open Sys2Proof

/-! ### The small changes -/

/-- Two states that differ only in what no law but those of IRQN and of RESETN reads: the commands that
wait, the free-value counter, the records of outputs sent, memory's ready, IRQN, the frame in progress. -/
structure State.Agrees (s t : State) : Prop where
  resetAsserted : t.resetAsserted = s.resetAsserted
  offered : t.upstream.offered = s.upstream.offered
  tagBusy : t.upstream.tagBusy = s.upstream.tagBusy
  windows : t.windows = s.windows
  cursors : t.cursors = s.cursors
  settings : t.settings = s.settings
  queue : t.queue = s.queue
  classTable : t.classTable = s.classTable
  port : t.mem.port = s.mem.port
  tags : t.mem.tags = s.mem.tags
  writeBacks : t.mem.writeBacks = s.mem.writeBacks
  recoveryTimer : t.mem.recoveryTimer = s.mem.recoveryTimer
  mrstn : t.mem.mrstn = s.mem.mrstn
  slots : t.slots = s.slots
  sources : t.events.sources = s.events.sources
  floor : t.events.floor = s.events.floor
  stack : t.events.stack = s.events.stack
  drain : t.drain = s.drain
  monitor : t.service.monitor = s.service.monitor

/-- The physical address at which a verdict admits a request (R19, R20). -/
def Verdict.place : Verdict → Option Word
  | .plain physical => some physical
  | .claim _ physical _ => some physical
  | .bit physical _ _ => some physical
  | .refuse _ => none
  | .position _ => none
  | .rewind _ => none

/-- The slot that the grant of an entry on tag `n` takes (R89); none for a PLAIN entry. -/
def Entry.newSlot (e : Entry) (n : Fin 8) : Option Slot :=
  e.kind.opBit.map fun p =>
    { owner := e.id, dtag := n, word := e.physical, op := p.1, bit := p.2, fetched := none }

/-- R30, R72: an entry once it is granted on tag `n`. -/
def Entry.granted (n : Fin 8) (e : Entry) : Entry :=
  { e with state := e.kind.grantState, dtag := some n }

/-- R94: an entry whose fetch has been answered and that writes back. -/
def Entry.writingBack (e : Entry) : Entry := { e with state := .writingBack }

/-- `f` on the entry of a name. -/
def changeEntry (id : EntryId) (f : Entry → Entry) (entries : List Entry) : List Entry :=
  entries.map fun x => if x.id = id then f x else x

/-- An access of entry `e` on tag `n` in phase `p` has been issued and not answered. -/
structure State.Access (s : State) (n : Fin 8) (e : Entry) (p : Phase) : Prop where
  tag : ∃ i, s.mem.tags[n] = .busy e.id p (some i)
  mem : e ∈ s.queue.entries

/-- A BUSY tag that fits no entry of the queue; no reachable state has one (log 13). -/
inductive State.Orphan (s : State) (n : Fin 8) : Prop
  | lost {o : EntryId} {p : Phase} {i : Issued} (htag : s.mem.tags[n] = .busy o p (some i))
    (hnone : s.findEntry o = none)
  | plainFetch {e : Entry} (h : s.Access n e .fetch) (hplain : e.kind.opBit = none)

/-- The small changes. -/
inductive State.Change (s : State) : State → Prop
  /-- Nothing that a law of tables, queue, port or events reads. -/
  | unseen {t : State} (h : s.Agrees t) : s.Change t
  /-- A request comes to stand on the channel. -/
  | offer {r : Request} (hwf : r.wf = true) : s.Change (s.offer (some r))
  /-- A request is taken and makes no entry. -/
  | take {r : Request} {rest : List Request} (h : s.upstream.offered = r :: rest) :
    s.Change (s.channel rest)
  /-- Time passes, no event coming before the end of it. -/
  | pass {k : Nat} (h : s.nextWithin k = true) : s.Change (s.advance k)
  /-- A request is taken and makes an entry. -/
  | enters {r : Request} {rest : List Request} {physical : Word} (kind : EntryKind)
    (hoffered : s.upstream.offered = r :: rest) (hroom : s.queue.entries.length < queueDepth)
    (hfree : s.tagIsBusy r.requester r.tag = false)
    (hdrain : s.drain.state = .none ∨ inMask s.drain.mask (.bus r.requester) = false)
    (hplace : (s.decode r).place = some physical) :
    s.Change ((s.channel rest).admitRequest r kind physical)
  /-- A monitor command is accepted. -/
  | admitMonitor {address : Word} (kind : EntryKind) (haligned : aligned address = true)
    (hidle : s.service.monitor.state ≠ .busy) (hroom : s.queue.entries.length < queueDepth) :
    s.Change ((s.enqueue .monitor 0 address .monitor kind address 1 s.settings.monitorClass).setMonitor
      { state := .busy, outcome := none, data := 0 })
  /-- A DONE record is collected. -/
  | collect (hdone : s.service.monitor.state = .done) : s.Change (s.setMonitor MonitorRecord.reset)
  /-- A WAITING entry completes. -/
  | completeWaiting {e : Entry} (o : UpOutcome) (hwaiting : e.state = .waiting)
    (hmonitor : e.requester = .monitor → e ∈ s.queue.entries)
    (hnamed : (s.queue.entries.map Entry.id).Nodup → ∀ x ∈ s.queue.entries, x.id = e.id → x = e) :
    s.Change (s.complete e o [] false)
  /-- An entry is granted. -/
  | grant {e : Entry} {n : Fin 8} (hmem : e ∈ s.queue.entries) (hwaiting : e.state = .waiting)
    (horder : orderMet (s.olderThan e.id) e = true) (hhazard : hazardMet (s.olderThan e.id) e = true)
    (hslot : s.slotMet e = true) (hport : s.mem.port = .running) (htag : s.mem.tags[n] = .free) :
    s.Change
      { s with
        slots := s.slots ++ (e.newSlot n).toList,
        mem :=
          { s.mem with tags := s.mem.tags.set n (.busy e.id e.kind.grantPhase s.issuedNow) },
        queue := { s.queue with entries := changeEntry e.id (Entry.granted n) s.queue.entries } }
  /-- A write-back is issued. -/
  | issueWriteBack {n : Fin 8} {rest : List (Fin 8)} {o : EntryId} {p : Phase} {i : Option Issued}
    (hfirst : s.mem.writeBacks = n :: rest) (htag : s.mem.tags[n] = .busy o p i) :
    s.Change
      { s with
        mem :=
          { s.mem with
            writeBacks := rest, tags := s.mem.tags.set n (.busy o .writeBack s.issuedNow) } }
  /-- A waiting write-back without its access is dropped (log 13). -/
  | dropWriteBack {n : Fin 8} {rest : List (Fin 8)} (hfirst : s.mem.writeBacks = n :: rest)
    (htag : ∀ o p i, s.mem.tags[n] ≠ .busy o p i) :
    s.Change { s with mem := { s.mem with writeBacks := rest } }
  /-- A late answer frees its tag. -/
  | freeLate {n : Fin 8} (htag : s.mem.tags[n] = .quarantined) : s.Change (s.setTag n .free)
  /-- An answer frees a tag that fits no entry. -/
  | freeOrphan {n : Fin 8} (h : s.Orphan n) : s.Change (s.setTag n .free)
  /-- The access of a PLAIN entry is answered OK. -/
  | plainDone {e : Entry} {n : Fin 8} {p : Phase} (h : s.Access n e p) (hp : p = .read ∨ p = .write)
    (o : UpOutcome) (data : List Word) (wrote : Bool) :
    s.Change ((s.setTag n .free).complete e o data wrote)
  /-- An access ends, its slot with it. -/
  | accessEnds {e : Entry} {n : Fin 8} {p : Phase} (h : s.Access n e p) (o : UpOutcome)
    (data : List Word) (wrote : Bool) :
    s.Change (((s.setTag n .free).releaseSlot e.id).complete e o data wrote)
  /-- A fetch is answered OK and its write-back waits. -/
  | fetchWrites {e : Entry} {n : Fin 8} (h : s.Access n e .fetch) (f : Fetched) :
    s.Change
      { s with
        slots := (s.storeFetched e.id f).slots,
        mem :=
          { s.mem with
            tags := s.mem.tags.set n (.busy e.id .writeBack none),
            writeBacks := s.mem.writeBacks ++ [n] },
        queue := { s.queue with entries := changeEntry e.id Entry.writingBack s.queue.entries } }
  /-- An access times out. -/
  | timesOut {e : Entry} {n : Fin 8} {p : Phase} (h : s.Access n e p) (o : UpOutcome) :
    s.Change (((s.setTag n .quarantined).releaseSlot e.id).complete e o [] false).stallIfNoTag
  /-- A tag that fits no entry times out. -/
  | orphanTimesOut {n : Fin 8} (h : s.Orphan n) : s.Change (s.setTag n .quarantined).stallIfNoTag
  /-- Recovery ends. -/
  | recover (hport : s.mem.port = .recovering) :
    s.Change
      { s with
        mem :=
          { s.mem with mrstn := false, tags := Vector.replicate 8 .free, port := .running } }
  /-- FAULT-CLEAR of a STALLED port. -/
  | clearFault (hport : s.mem.port = .stalled) :
    s.Change
      { s with mem := { s.mem with port := .recovering, mrstn := true, recoveryTimer := 0 } }
  /-- A window is written. -/
  | storeWindow {r : WindowRecord} (w : Fin 16) (hlegal : r.Legal) :
    s.Change ((s.setWindow w r).setCursor w r.newCursor)
  /-- A ring is turned. -/
  | turn {w : Fin 16} {start : Nat} (hvalid : s.windows[w].valid = true)
    (hring : s.windows[w].kind = .ring)
    (hstart : 0 < s.windows[w].rotating → start < s.windows[w].rotating) :
    s.Change (s.setWindow w { s.windows[w] with ringS := start })
  /-- A cursor moves. -/
  | moveCursor {w : Fin 16} {c : Cursor} (hvalid : s.windows[w].valid = true)
    (haperture : s.windows[w].kind = .aperture) (hinside : s.TablesLegal → c.Inside s.windows[w]) :
    s.Change (s.setCursor w (some c))
  /-- The settings are written. -/
  | setSettings {r : Settings} (hlegal : r.Legal) : s.Change { s with settings := r }
  /-- DEFAULTS. -/
  | defaults :
    s.Change
      { s with
        windows := Vector.replicate 16 WindowRecord.zeroed, cursors := Vector.replicate 16 none,
        classTable := { s.classTable with classes := Vector.replicate 8 ClassRecord.reset },
        settings := Settings.reset }
  /-- A class record is written or charged. -/
  | setClass {k : Fin 8} {c : ClassRecord}
    (hlegal : s.QueueLegal → s.classTable.classes[k].Legal → c.Legal) : s.Change (s.setClass k c)
  /-- The service interval ends. -/
  | endInterval :
    s.Change
      { s with
        classTable :=
          { classes := Vector.ofFn fun k => s.classTable.classes[k].refilled,
            length := s.settings.interval, timer := 0 } }
  /-- A drain starts with entries to wait for. -/
  | startDrain {mask : Byte} (hstate : s.drain.state = .none) (hmask : mask ≠ 0)
    (hwaits : s.maskedEntry mask = true) :
    s.Change
      { s with
        drain :=
          { state := .draining, mask := mask, limit := s.settings.drainLimit, timer := 0 } }
  /-- A drain starts with nothing to wait for. -/
  | drainAtOnce {mask : Byte} (hstate : s.drain.state = .none) (hmask : mask ≠ 0)
    (hdone : s.maskedEntry mask = false) :
    s.Change
      { s with
        drain := { s.drain with state := .drained, mask := mask, limit := s.settings.drainLimit } }
  /-- RESUME. -/
  | resume : s.Change { s with drain := { s.drain with state := .none, mask := 0 } }
  /-- The drain timer expires. -/
  | stick (hstate : s.drain.state = .draining) :
    s.Change { s with drain := { s.drain with state := .stuck } }
  /-- An occurrence. -/
  | report {src : Source} (hedge : src.isLevel = false) (d : Detail) : s.Change (s.report src d)
  /-- The judgement at the end of an event. -/
  | judge : s.Change s.judge
  /-- EVENT-SETUP. -/
  | setLevel {src : Source} {level : Nat} (hsrc : src ≠ .fault) (hlevel : level ≤ 7) :
    s.Change (s.setSource src { s.source src with level := level })
  /-- EVENT-TAKE. -/
  | takeEvent {src : Source} (hroom : s.events.stack.length < 4) (habove : s.aboveFloor src = true) :
    s.Change ((s.raiseFloor (s.source src).level).emptyIfEdge src)
  /-- EVENT-RESTORE. -/
  | restoreFloor {top : Nat} {rest : List Nat} (h : s.events.stack = top :: rest) :
    s.Change { s with events := { s.events with floor := top, stack := rest } }
  /-- EVENT-FLOOR. -/
  | setFloor {level : Nat} (h : level ≤ 7) :
    s.Change { s with events := { s.events with floor := level } }
  /-- EVENT-CLEAR. -/
  | clearEvents (mask : Half) :
    s.Change
      { s with events := { s.events with sources := Vector.ofFn fun i => s.clearRecord mask i } }

/-- A chain of small changes. -/
def State.Changes : State → State → Prop := Relation.ReflTransGen State.Change

theorem State.Changes.refl (s : State) : s.Changes s := Relation.ReflTransGen.refl

theorem State.Changes.trans {s t u : State} (h : s.Changes t) (k : t.Changes u) : s.Changes u :=
  Relation.ReflTransGen.trans h k

theorem State.Change.changes {s t : State} (h : s.Change t) : s.Changes t := .single h

theorem State.Changes.then {s t u : State} (h : s.Changes t) (k : t.Change u) : s.Changes u :=
  Relation.ReflTransGen.tail h k

theorem State.Changes.judged {s t : State} (h : s.Changes t) : s.Changes t.judge := h.then .judge

theorem State.Changes.reported {s t : State} (h : s.Changes t) {src : Source}
    (hedge : src.isLevel = false) (d : Detail) : s.Changes (t.report src d) :=
  h.then (.report hedge d)

/-- A law that every small change keeps is kept by a chain. -/
theorem State.Changes.keeps {P : State → Prop} (hchange : ∀ s t : State, s.Change t → P s → P t)
    {s t : State} (h : s.Changes t) (hs : P s) : P t := by
  induction h with
  | refl => exact hs
  | tail _ hlast ih => exact hchange _ _ hlast ih

/-! ### Changes that no law reads -/

theorem State.Agrees.refl (s : State) : s.Agrees s := by constructor <;> rfl

theorem State.agrees_answer (r : Reply) (s : State) : s.Agrees (s.answer r) := by
  constructor <;> rfl

theorem State.agrees_sampleReady (ready : Bool) (s : State) : s.Agrees (s.sampleReady ready) := by
  constructor <;> rfl

theorem State.agrees_respond (r : Response) (s : State) : s.Agrees (s.respond r) := by
  constructor <;> rfl

theorem State.agrees_issue (q : MemRequest) (s : State) : s.Agrees (s.issue q) := by
  constructor <;> rfl

theorem State.agrees_countFree (s : State) : s.Agrees s.countFree := by constructor <;> rfl

theorem State.agrees_raiseSsn (sent : Nat) (s : State) : s.Agrees (s.raiseSsn sent) := by
  constructor <;> rfl

theorem State.agrees_withPending (pending : List Instr) (s : State) :
    s.Agrees { s with pending := pending } := by constructor <;> rfl

theorem State.agrees_countAnswer (n : Nat) (data : List Word) (s : State) :
    s.Agrees (s.countAnswer n data) := by
  unfold State.countAnswer
  split
  · exact .refl s
  · exact s.agrees_countFree

/-- A frame's command is its effect and a reply, or nothing. -/
theorem serve_changes {s t : State} {f : State → State × Reply}
    (hf : s.Changes (f s).1) (h : serve s f = .next t) : s.Changes t := by
  rcases serve_next h with ⟨-, rfl⟩ | ⟨-, rfl⟩
  · exact hf.then (.unseen (State.agrees_answer ..))
  · exact .refl _

/-- An expiry command is the passing of time and its effect, or nothing. -/
theorem expire_changes {s : State} {left : Option Nat} {f : State → State}
    (hf : ∀ k, left = some k → (s.advance k).Changes (f (s.advance k))) :
    s.Changes (expire left f s) := by
  rcases expire_cases left f s with h | ⟨k, hleft, hnext, h⟩
  · rw [h]
    exact .refl s
  · rw [h]
    exact (State.Change.pass hnext).changes.trans (hf k hleft)

/-! ### The upstream port -/

theorem State.reportRefusal_changes (r : Request) (why : Refused) (s : State) :
    s.Changes (s.reportRefusal r why) := by
  cases why with
  | split => exact (State.Change.report rfl _).changes
  | denied => exact (State.Change.report rfl _).changes
  | unsupported => exact (State.Change.report rfl _).changes
  | apertureEnd => exact .refl s

/-- R103: the cursor of an aperture window, where the law of the tables holds. -/
theorem State.TablesLegal.cursorOf_inside {s : State} (h : s.TablesLegal) {w : Fin 16}
    (hvalid : s.windows[w].valid = true) (haperture : s.windows[w].kind = .aperture) :
    (s.cursorOf w).Inside s.windows[w] := by
  obtain ⟨c, hc⟩ := Option.isSome_iff_exists.mp ((h.cursorExists w).mpr ⟨hvalid, haperture⟩)
  rw [State.cursorOf, hc, Option.getD_some]
  exact h.cursorInside w c hc

/-- R9: a region has a first cell. -/
theorem Cursor.start_inside {w : WindowRecord} (h : w.Legal) (hvalid : w.valid = true)
    (haperture : w.kind = .aperture) : Cursor.start.Inside w := by
  obtain ⟨-, hcolumns, -, hrows, -⟩ := h.aperture hvalid haperture
  exact ⟨hrows, hcolumns, nofun⟩

/-- R111 to R113: an advance stays inside the region, and ends on the last cell only with STOP. -/
theorem advanceCursor_inside {w : WindowRecord} {c : Cursor} (h : c.Inside w)
    (hready : c.exhausted = false) : (advanceCursor w c).Inside w := by
  have hrow := h.row
  have hcolumn := h.column
  by_cases hlast : c.row = w.rows - 1 ∧ c.column = w.columns - 1
  · cases hend : w.endPolicy with
    | wrap =>
      rw [advanceCursor_wrap hlast.1 hlast.2 hend]
      exact ⟨Nat.zero_lt_of_lt hrow, Nat.zero_lt_of_lt hcolumn, nofun⟩
    | stop =>
      rw [advanceCursor_stop hlast.1 hlast.2 hend]
      exact ⟨hrow, hcolumn, fun _ => ⟨hend, (atLastCell_iff w _).mpr hlast⟩⟩
  · cases hscan : w.scan with
    | rowMajor =>
      rw [advanceCursor_rowMajor hscan hlast]
      split_ifs with hnext
      · exact ⟨hrow, Nat.add_lt_of_lt_sub hnext, fun h' => nomatch hready.symm.trans h'⟩
      · exact ⟨by dsimp only; omega, Nat.zero_lt_of_lt hcolumn, fun h' => nomatch hready.symm.trans h'⟩
    | columnMajor =>
      rw [advanceCursor_columnMajor hscan hlast]
      split_ifs with hnext
      · exact ⟨Nat.add_lt_of_lt_sub hnext, hcolumn, fun h' => nomatch hready.symm.trans h'⟩
      · exact ⟨Nat.zero_lt_of_lt hrow, by dsimp only; omega, fun h' => nomatch hready.symm.trans h'⟩

/-- R17, R106 to R109: every verdict on a single-word request to an APERTURE window. -/
theorem State.apertureVerdict_cases (s : State) (w : Fin 16) (r : Request) :
    (∃ why, s.apertureVerdict w r = .refuse why) ∨ s.apertureVerdict w r = .position w ∨
      s.apertureVerdict w r = .rewind w ∨
      ∃ a, (s.cursorOf w).exhausted = false ∧ s.apertureVerdict w r =
        .claim w (cellAddress s.windows[w] (s.cursorOf w).row (s.cursorOf w).column) a := by
  by_cases hstream : offsetIn s.windows[w] r = 0 ∨ offsetIn s.windows[w] r = 4
  · rw [State.apertureVerdict_stream hstream]
    split_ifs with hend
    · exact .inl ⟨_, rfl⟩
    · exact .inr (.inr (.inr ⟨_, Bool.eq_false_iff.mpr hend, rfl⟩))
  · by_cases hposition : offsetIn s.windows[w] r = 8
    · rw [State.apertureVerdict_position hposition]
      split_ifs
      · exact .inr (.inl rfl)
      · exact .inr (.inr (.inl rfl))
    · exact .inl ⟨_, State.apertureVerdict_other (fun h => hstream (.inl h))
        (fun h => hstream (.inr h)) hposition⟩

/-- R17: only a request to an APERTURE window touches a cursor. -/
theorem State.decode_of_cursor {s : State} {r : Request}
    (hv : (∃ w, s.decode r = .rewind w) ∨ ∃ w physical a, s.decode r = .claim w physical a) :
    ∃ w, s.Reaches r w ∧ s.windows[w].kind = .aperture ∧ s.decode r = s.apertureVerdict w r := by
  rcases s.decode_cases r with ⟨why, hd⟩ | ⟨-, -, hd⟩ | ⟨w, hreaches, hd⟩
  · simp [hd] at hv
  · simp [hd] at hv
  rw [hd] at hv ⊢
  cases hkind : s.windows[w].kind with
  | pass => simp [State.kindVerdict_pass hkind] at hv
  | ring =>
    rw [State.kindVerdict_ring hkind] at hv
    split_ifs at hv <;> simp at hv
  | bitop =>
    rw [State.kindVerdict_bitop hkind] at hv
    split_ifs at hv <;> simp at hv
  | aperture =>
    rw [State.kindVerdict_aperture hkind] at hv ⊢
    split_ifs at hv ⊢
    · simp at hv
    · exact ⟨w, hreaches, hkind, rfl⟩

theorem State.Reaches.valid {s : State} {r : Request} {w : Fin 16} (h : s.Reaches r w) :
    s.windows[w].valid = true :=
  (State.lookup_eq_some_iff.mp h.found).1.1

/-- R17: REWIND reaches a valid APERTURE window. -/
theorem State.aperture_of_rewind {s : State} {r : Request} {w : Fin 16}
    (h : s.decode r = .rewind w) : s.windows[w].valid = true ∧ s.windows[w].kind = .aperture := by
  obtain ⟨v, hreaches, hkind, hv⟩ := State.decode_of_cursor (.inl ⟨w, h⟩)
  rw [h] at hv
  rcases s.apertureVerdict_cases v r with ⟨why, hc⟩ | hc | hc | ⟨a, -, hc⟩ <;> cases hv.trans hc
  exact ⟨hreaches.valid, hkind⟩

/-- R17: a claim reaches a valid APERTURE window with a READY cursor. -/
theorem State.aperture_of_claim {s : State} {r : Request} {w : Fin 16} {physical : Word} {a : Bool}
    (h : s.decode r = .claim w physical a) :
    s.windows[w].valid = true ∧ s.windows[w].kind = .aperture ∧
      (s.cursorOf w).exhausted = false := by
  obtain ⟨v, hreaches, hkind, hv⟩ := State.decode_of_cursor (.inr ⟨w, physical, a, h⟩)
  rw [h] at hv
  rcases s.apertureVerdict_cases v r with ⟨why, hc⟩ | hc | hc | ⟨a', hready, hc⟩ <;>
    cases hv.trans hc
  exact ⟨hreaches.valid, hkind, hready⟩

/-- R18 to R20, R106 to R110: what a decoded request does. -/
theorem State.carryOut_changes {s : State} {r : Request} {rest : List Request}
    (hoffered : s.upstream.offered = r :: rest) (hroom : s.queue.entries.length < queueDepth)
    (hfree : s.tagIsBusy r.requester r.tag = false)
    (hdrain : s.drain.state = .none ∨ inMask s.drain.mask (.bus r.requester) = false) :
    s.Changes ((s.channel rest).carryOut r (s.decode r)) := by
  have htaken : s.Changes (s.channel rest) := (State.Change.take hoffered).changes
  have hadmit (kind : EntryKind) {physical : Word} (hplace : (s.decode r).place = some physical) :
      s.Changes ((s.channel rest).admitRequest r kind physical) :=
    (State.Change.enters kind hoffered hroom hfree hdrain hplace).changes
  cases hdecode : s.decode r with
  | refuse why =>
    exact (htaken.trans (State.reportRefusal_changes ..)).then (.unseen (State.agrees_respond ..))
  | position w => exact htaken.then (.unseen (State.agrees_respond ..))
  | rewind w =>
    obtain ⟨hvalid, hkind⟩ := State.aperture_of_rewind hdecode
    exact (htaken.then (.moveCursor (c := Cursor.start) hvalid hkind
      fun h => Cursor.start_inside (h.window w) hvalid hkind)).then
        (.unseen (State.agrees_respond ..))
  | plain physical => exact hadmit _ (by rw [hdecode]; rfl)
  | bit physical op bit => exact hadmit _ (by rw [hdecode]; rfl)
  | claim w physical a =>
    have hadmitted := hadmit (plainKind r) (physical := physical) (by rw [hdecode]; rfl)
    cases a with
    | false => exact hadmitted
    | true =>
      obtain ⟨hvalid, hkind, hready⟩ := State.aperture_of_claim hdecode
      exact hadmitted.then (.moveCursor (c := advanceCursor s.windows[w] (s.cursorOf w)) hvalid hkind
        fun h => advanceCursor_inside (h.cursorOf_inside hvalid hkind) hready)

theorem State.takeRequest_changes {s : State} {r : Request} {rest : List Request}
    (hoffered : s.upstream.offered = r :: rest) (hroom : s.queue.entries.length < queueDepth) :
    s.Changes ((s.channel rest).takeRequest r) := by
  have htaken : s.Changes (s.channel rest) := (State.Change.take hoffered).changes
  unfold State.takeRequest
  split_ifs with hbusy hdrain
  · exact htaken.reported rfl _
  · exact htaken.then (.unseen (State.agrees_respond ..))
  · refine State.carryOut_changes hoffered hroom (Bool.eq_false_iff.mpr hbusy) ?_
    rw [not_and_or, not_not, Bool.not_eq_true] at hdrain
    exact hdrain

theorem State.takeFront_changes (s : State) : s.Changes s.takeFront := by
  unfold State.takeFront
  split
  · exact .refl s
  · next r rest hoffered =>
    split_ifs with hready
    · exact (State.takeRequest_changes hoffered (s.upReady_iff.mp hready).2).judged
    · exact .refl s

theorem State.offer_changes {o : Option Request} (hwf : o.all Request.wf = true) (s : State) :
    s.Changes (s.offer o) := by
  cases o with
  | none => exact (State.Change.unseen (by constructor <;> simp [State.offer])).changes
  | some r => exact (State.Change.offer hwf).changes

/-! ### The classes -/

/-- R96, Table 3-3: no grant counts more than eight words. -/
theorem Entry.Legal.words_le {e : Entry} (h : e.Legal) : e.words ≤ 8 := by
  have hlength := h.length.2
  unfold Entry.words
  cases e.kind with
  | plainRead => exact hlength
  | plainWrite be data => exact hlength
  | bitRead op bit =>
    dsimp only
    split_ifs <;> omega
  | bitWrite op bit =>
    dsimp only
    split_ifs <;> omega

/-- R50, R52: a debit of up to eight words starts from a credit of at least 1. -/
theorem ClassRecord.Legal.charged {c : ClassRecord} (h : c.Legal) {n : Nat} (hn : n ≤ 8)
    (hmet : creditMet c = true) : (c.charged n).Legal := by
  have hlow := h.low
  have hhigh := h.high
  refine ⟨?_, ?_, Nat.min_le_left _ _, h.usedLast⟩
  · simp only [ClassRecord.charged]
    split_ifs with hmode
    · rcases (creditMet_iff c).mp hmet with hfree | hreport | ⟨-, hcredit⟩
      · exact nomatch hfree.symm.trans hmode
      · exact nomatch hreport.symm.trans hmode
      · omega
    · exact hlow
  · simp only [ClassRecord.charged]
    split_ifs <;> omega

/-- R59: the credit written is clipped. -/
theorem ClassRecord.Legal.written {c : ClassRecord} (h : c.Legal) (level : Fin 8) (mode : ClassMode)
    (budget carry : Half) : (c.written level mode budget carry).Legal := by
  have hlow := h.low
  exact ⟨by simp only [ClassRecord.written]; omega, Int.min_le_right _ _, h.usedNow, h.usedLast⟩

/-! ### The arbiter -/

/-- What the charge of a grant leaves alone (R52 to R54): all but the class table and the sources. -/
theorem State.charge_frame (e : Entry) (s : State) :
    ∃ table events, s.charge e = { s with classTable := table, events := events } := by
  unfold State.charge
  dsimp only
  split_ifs <;> exact ⟨_, _, rfl⟩

theorem State.charge_changes {s : State} {e : Entry} (hmem : e ∈ s.queue.entries)
    (hmet : creditMet s.classTable.classes[e.cls] = true) : s.Changes (s.charge e) := by
  have hcharged : s.Change (s.setClass e.cls (s.classTable.classes[e.cls].charged e.words)) :=
    .setClass fun hqueue hclass => hclass.charged (hqueue.entry e hmem).words_le hmet
  unfold State.charge
  dsimp only
  split_ifs
  · exact hcharged.changes.reported rfl _
  · exact hcharged.changes

theorem State.takeSlot_eq (e : Entry) (n : Fin 8) (s : State) :
    s.takeSlot e n = { s with slots := s.slots ++ (e.newSlot n).toList } := by
  unfold State.takeSlot Entry.newSlot
  cases e.kind.opBit <;> simp

/-- R72: a grant of an eligible entry is its charge, its slot, its tag and its request. -/
theorem State.grantEntry_changes {s : State} {e : Entry} {n : Fin 8} (hmem : e ∈ s.queue.entries)
    (heligible : s.eligible e = true) (htag : s.mem.tags[n] = .free) :
    s.Changes (s.grantEntry e n) := by
  obtain ⟨hwaiting, horder, hhazard, -, hcredit, hslot, hport⟩ := (s.eligible_iff e).mp heligible
  have hcharge := State.charge_changes hmem hcredit
  obtain ⟨table, events, hframe⟩ := s.charge_frame e
  unfold State.grantEntry
  rw [hframe] at hcharge ⊢
  rw [State.takeSlot_eq]
  exact (hcharge.then (.grant hmem hwaiting horder hhazard hslot (s.portMet_iff.mp hport).1
    htag)).then (.unseen (State.agrees_issue ..))

theorem execGrant_changes {ready : Bool} {s t : State} (h : execGrant ready s = .next t) :
    s.Changes t := by
  have hsample : s.Changes (s.sampleReady ready) :=
    (State.Change.unseen (State.agrees_sampleReady ..)).changes
  unfold execGrant at h
  dsimp only at h
  split at h
  · next e n hchoice htag =>
    cases h
    obtain ⟨-, hchoice⟩ := Option.ite_none_right_eq_some.mp hchoice
    obtain ⟨hmem, heligible⟩ := State.choice_some hchoice
    exact (hsample.trans
      (State.grantEntry_changes hmem heligible (State.lowestFree_some htag))).judged
  · cases h
    exact hsample
  · cases h
    exact hsample

/-! ### The memory port -/

theorem State.issueWriteBack_changes {s : State} {n : Fin 8} {rest : List (Fin 8)}
    (hfirst : s.mem.writeBacks = n :: rest) : s.Changes (s.issueWriteBack n rest) := by
  unfold State.issueWriteBack
  dsimp only
  split
  · next o p i htag =>
    have hissued : s.Changes _ := (State.Change.issueWriteBack hfirst htag).changes
    split
    · exact hissued.then (.unseen (State.agrees_issue ..))
    · exact hissued
  · next htag => exact (State.Change.dropWriteBack hfirst (by simp [htag])).changes
  · next htag => exact (State.Change.dropWriteBack hfirst (by simp [htag])).changes

theorem execWriteBackIssue_changes {ready : Bool} {s t : State}
    (h : execWriteBackIssue ready s = .next t) : s.Changes t := by
  have hsample : s.Changes (s.sampleReady ready) :=
    (State.Change.unseen (State.agrees_sampleReady ..)).changes
  unfold execWriteBackIssue at h
  dsimp only at h
  split at h
  · cases h
    exact hsample
  · next n rest hfirst =>
    split_ifs at h
    · cases h
      exact hsample.trans (State.issueWriteBack_changes hfirst)
    · cases h
      exact hsample

/-- R92: the fetch is answered. -/
theorem State.fetchAnswered_changes {s : State} {n : Fin 8} {e : Entry} (h : s.Access n e .fetch)
    (op : BitOp) (bit : Fin 32) (word : Word) : s.Changes (s.fetchAnswered n e op bit word) := by
  unfold State.fetchAnswered
  dsimp only
  split_ifs
  · exact (State.Change.fetchWrites h (fetchedOf op bit word)).changes
  · exact (State.Change.accessEnds h _ _ _).changes

/-- A free value used changes nothing that an access reads. -/
theorem State.Access.countAnswer {s : State} {n : Fin 8} {e : Entry} {p : Phase}
    (h : s.Access n e p) (k : Nat) (data : List Word) : (s.countAnswer k data).Access n e p := by
  have hagrees := s.agrees_countAnswer k data
  exact ⟨by rw [hagrees.tags]; exact h.tag, by rw [hagrees.queue]; exact h.mem⟩

/-- R74, R75: the answer to an issued access. -/
theorem State.answerAccess_changes {s : State} {n : Fin 8} {e : Entry} {p : Phase}
    (h : s.Access n e p) (outcome : AnswerOutcome) (data : List Word) :
    s.Changes (s.answerAccess n e p outcome data) := by
  have hcount (k : Nat) : s.Changes (s.countAnswer k data) :=
    (State.Change.unseen (State.agrees_countAnswer ..)).changes
  cases outcome with
  | error => exact (State.Change.accessEnds h .memError [] false).changes.reported rfl _
  | ok =>
    cases p with
    | read =>
      exact (hcount e.length).then (.plainDone (h.countAnswer ..) (.inl rfl) _ _ _)
    | write => exact (State.Change.plainDone h (.inr rfl) .ok [] true).changes
    | fetch =>
      simp only [State.answerAccess, State.answerOk, State.fetchTaken]
      split
      · exact (hcount 1).trans (State.fetchAnswered_changes (h.countAnswer ..) _ _ _)
      · next hplain => exact (State.Change.freeOrphan (.plainFetch h hplain)).changes
    | writeBack => exact (State.Change.accessEnds h .ok _ true).changes

theorem execMemoryAnswer_changes {n : Fin 8} {outcome : AnswerOutcome} {data : List Word}
    {s t : State} (h : execMemoryAnswer n outcome data s = .next t) : s.Changes t := by
  have hstray : s.Changes s.stray.judge := (State.Change.report rfl strayDetail).changes.judged
  unfold execMemoryAnswer at h
  split_ifs at h
  · cases h
    exact .refl s
  split at h
  · cases h
    exact hstray
  · next htag =>
    cases h
    exact (State.Change.freeLate htag).changes
  · cases h
    exact hstray
  · next o p i htag =>
    split at h
    · next e he =>
      cases h
      obtain ⟨hmem, rfl⟩ := State.findEntry_some he
      exact (State.answerAccess_changes ⟨⟨i, htag⟩, hmem⟩ outcome data).judged
    · next hnone =>
      cases h
      exact (State.Change.freeOrphan (.lost htag hnone)).changes

/-- A report touches nothing that STALLED is judged by. -/
theorem State.stallIfNoTag_report (src : Source) (d : Detail) (s : State) :
    (s.report src d).stallIfNoTag = s.stallIfNoTag.report src d := by
  have hcount : (s.report src d).countTags = s.countTags := rfl
  unfold State.stallIfNoTag
  rw [State.report_mem, hcount]
  split_ifs <;> rfl

/-- R76: the timeout of an issued access. -/
theorem State.timeOut_changes {s : State} {n : Fin 8} {o : EntryId} {p : Phase} {i : Issued}
    (htag : s.mem.tags[n] = .busy o p (some i)) : s.Changes (s.timeOut n) := by
  unfold State.timeOut
  rw [htag]
  dsimp only
  split
  · next e he =>
    obtain ⟨hmem, rfl⟩ := State.findEntry_some he
    rw [State.failAccess, State.stallIfNoTag_report]
    exact ((State.Change.timesOut ⟨⟨i, htag⟩, hmem⟩ _).changes.reported rfl _).judged
  · next hnone => exact (State.Change.orphanTimesOut (.lost htag hnone)).changes.judged

/-! ### Expiries -/

theorem State.holdExpired_changes {s : State} {id : EntryId}
    (hwaiting : ∀ e, s.findEntry id = some e → e.state = .waiting) :
    s.Changes (s.holdExpired id) := by
  unfold State.holdExpired
  split
  · next e he =>
    obtain ⟨hmem, -⟩ := State.findEntry_some he
    exact ((State.Change.completeWaiting _ (hwaiting e he) (fun _ => hmem)
      fun hnodup x hx hid => List.inj_on_of_nodup_map hnodup hx hmem hid).changes.reported rfl _).judged
  · exact .refl s

theorem State.advance_waiting {s : State} {id : EntryId} {k j : Nat}
    (hleft : (s.findEntry id).bind Entry.holdLeft = some k) {e : Entry}
    (he : (s.advance j).findEntry id = some e) : e.state = .waiting := by
  obtain ⟨e', he', hleft⟩ := Option.bind_eq_some_iff.mp hleft
  have hwaiting := (Entry.holdLeft_eq_some_iff.mp hleft).1
  by_cases hreset : s.resetAsserted = true
  · rw [State.advance_asserted hreset, he'] at he
    cases he
    exact hwaiting
  · rw [State.findEntry_advance (Bool.eq_false_iff.mpr hreset), he'] at he
    cases he
    exact hwaiting

theorem State.advance_busy {s : State} {n : Fin 8} {k j : Nat}
    (hleft : s.mem.tags[n].responseLeft = some k) :
    ∃ o p i, (s.advance j).mem.tags[n] = .busy o p (some i) := by
  obtain ⟨o, p, i, htag, -⟩ := TagRecord.responseLeft_eq_some_iff.mp hleft
  by_cases hreset : s.resetAsserted = true
  · rw [State.advance_asserted hreset]
    exact ⟨o, p, i, htag⟩
  · rw [State.advance_tag (Bool.eq_false_iff.mpr hreset), htag]
    exact ⟨o, p, _, rfl⟩

theorem State.advance_port (k : Nat) (s : State) : (s.advance k).mem.port = s.mem.port := by
  unfold State.advance
  split <;> rfl

theorem State.advance_drainState (k : Nat) (s : State) :
    (s.advance k).drain.state = s.drain.state := by
  unfold State.advance
  split <;> rfl

theorem exec_expiry_changes {i : Instr} (hi : isExpiry i = true) {s t : State}
    (h : exec i s = .next t) : s.Changes t := by
  rw [exec_expiry hi] at h
  cases h
  refine expire_changes fun k hleft => ?_
  cases i with
  | holdTimerExpiry requester tag =>
    exact State.holdExpired_changes fun e he => State.advance_waiting hleft he
  | responseTimerExpiry n =>
    obtain ⟨o, p, i, htag⟩ := State.advance_busy (j := k) hleft
    exact State.timeOut_changes htag
  | intervalExpiry => exact (State.Change.endInterval.changes.reported rfl _).judged
  | endOfRecovery =>
    have hport := (State.recoveryLeft_eq_some_iff.mp hleft).1
    exact (State.Change.recover ((s.advance_port k).trans hport)).changes.judged
  | drainTimerExpiry =>
    have hstate := (State.drainLeft_eq_some_iff.mp hleft).1
    exact (State.Change.stick ((s.advance_drainState k).trans hstate)).changes.judged
  | _ => cases hi

/-! ### Windows, settings and monitor access -/

theorem State.storeWindow_changes {r : WindowRecord} (w : Fin 16) (hlegal : r.Legal) (s : State) :
    s.Changes (s.storeWindow w r) := (State.Change.storeWindow w hlegal).changes.judged

theorem State.writeWindow_changes (index : Byte) (b : WindowBytes) (s : State) :
    s.Changes (s.writeWindow index b).1 := by
  unfold State.writeWindow
  split
  · exact .refl s
  · split_ifs
    · exact s.storeWindow_changes _ WindowRecord.zeroed_legal
    · split
      · next hr => exact s.storeWindow_changes _ (windowOfBytes_legal hr)
      · exact .refl s

theorem State.placeCursor_changes (index : Byte) (row column : Half) (s : State) :
    s.Changes (s.placeCursor index row column).1 := by
  unfold State.placeCursor
  split
  · exact .refl s
  · split_ifs with hcell
    · obtain ⟨hvalid, hkind, hrow, hcolumn⟩ := hcell
      exact (State.Change.moveCursor
        (c := { row := row.toNat, column := column.toNat, exhausted := false }) hvalid hkind
        fun _ => ⟨hrow, hcolumn, nofun⟩).changes.judged
    · exact .refl s

/-- R128, R129: a start given lies among the rotating blocks. -/
theorem newStart_lt {w : WindowRecord} {mode value : Byte} {start : Nat}
    (h : newStart w mode value = some start) (hm : 0 < w.rotating) : start < w.rotating := by
  unfold newStart at h
  split_ifs at h <;> cases h
  · assumption
  · exact Nat.mod_lt _ hm

theorem State.rotate_changes (index mode value : Byte) (s : State) :
    s.Changes (s.rotate index mode value).1 := by
  unfold State.rotate
  split
  · exact .refl s
  · split_ifs with hring
    · split
      · next hstart => exact (State.Change.turn hring.1 hring.2 (newStart_lt hstart)).changes
      · exact .refl s
    · exact .refl s

theorem State.writeClass_changes (number level mode : Byte) (budget carry : Half) (s : State) :
    s.Changes (s.writeClass number level mode budget carry).1 := by
  unfold State.writeClass
  split
  · exact (State.Change.setClass fun _ h => h.written ..).changes
  · exact .refl s

/-- R174: the settings that are written are in their ranges. -/
theorem settingsOfBytes_legal {b : SettingsBytes} {r : Settings} (h : settingsOfBytes b = some r) :
    r.Legal := by
  unfold settingsOfBytes at h
  split at h
  · split_ifs at h with hranges
    · cases h
      obtain ⟨hinterval, hinterval', hresponse, hresponse', hdrain, hthreshold, hthreshold'⟩ := hranges
      have hhold := b.holdLimit.isLt
      have hlimit := b.drainLimit.isLt
      exact ⟨⟨hinterval, hinterval'⟩, by dsimp only; omega, ⟨hresponse, hresponse'⟩,
        ⟨hdrain, by dsimp only; omega⟩, ⟨hthreshold, hthreshold'⟩⟩
  · cases h

theorem State.writeSettings_changes (b : SettingsBytes) (s : State) :
    s.Changes (s.writeSettings b).1 := by
  unfold State.writeSettings
  split
  · next hr => exact (State.Change.setSettings (settingsOfBytes_legal hr)).changes.judged
  · exact .refl s

theorem State.restoreDefaults_changes (s : State) : s.Changes s.restoreDefaults.1 := by
  unfold State.restoreDefaults
  split_ifs
  · exact State.Change.defaults.changes.judged
  · exact .refl s

theorem State.monitorAccess_changes (address : Word) (kind : EntryKind) (s : State) :
    s.Changes (s.monitorAccess address kind).1 := by
  unfold State.monitorAccess
  split_ifs with haligned hbusy
  · exact .refl s
  · exact .refl s
  · rw [not_or, Nat.not_le] at hbusy
    exact (State.Change.admitMonitor kind (Bool.eq_true_of_not_eq_false haligned) hbusy.1
      hbusy.2).changes.judged

theorem State.collectMonitor_changes (s : State) : s.Changes s.collectMonitor.1 := by
  unfold State.collectMonitor
  split_ifs with hdone
  · exact (State.Change.collect hdone).changes
  · exact .refl s

/-! ### Drain control -/

theorem State.startDrain_changes (mask : Byte) (s : State) : s.Changes (s.startDrain mask).1 := by
  unfold State.startDrain
  split_ifs with hmask hstate hwaits
  · exact .refl s
  · exact .refl s
  · exact (State.Change.startDrain (not_not.mp hstate) hmask hwaits).changes.judged
  · exact (State.Change.drainAtOnce (not_not.mp hstate) hmask
      (Bool.eq_false_iff.mpr hwaits)).changes.judged

theorem State.resume_changes (s : State) : s.Changes s.resume.1 := by
  unfold State.resume
  split_ifs
  · exact .refl s
  · exact State.Change.resume.changes.judged

theorem State.faultClear_changes (s : State) : s.Changes s.faultClear.1 := by
  unfold State.faultClear
  split_ifs with hport
  · exact (State.Change.clearFault hport).changes.judged
  · exact .refl s

/-- Entries of bus requesters complete one after another. Each is in the queue at its turn unless an
earlier one had its name. -/
theorem State.completeAll_changes {goes : List Entry} {s : State}
    (hwaiting : ∀ e ∈ goes, e.state = .waiting) (hbus : ∀ e ∈ goes, e.requester ≠ .monitor)
    (hmem : ∀ e ∈ goes, e ∈ s.queue.entries ∨ ∀ x ∈ s.queue.entries, x.id ≠ e.id) :
    s.Changes (goes.foldl (fun t e => t.complete e .flushed [] false) s) := by
  induction goes generalizing s with
  | nil => exact .refl s
  | cons e rest ih =>
    rw [List.forall_mem_cons] at hwaiting hbus hmem
    have hfirst : s.Change (s.complete e .flushed [] false) := by
      refine .completeWaiting _ hwaiting.1 (fun h => absurd h hbus.1) fun hnodup x hx hid => ?_
      rcases hmem.1 with he | hgone
      · exact List.inj_on_of_nodup_map hnodup hx he hid
      · exact absurd hid (hgone x hx)
    refine hfirst.changes.trans (ih hwaiting.2 hbus.2 fun a ha => ?_)
    simp only [State.complete_queue, List.mem_filter, decide_eq_true_eq]
    by_cases hid : a.id = e.id
    · exact .inr fun x hx => hid ▸ hx.2
    · exact (hmem.2 a ha).imp (fun h => ⟨h, hid⟩) fun h x hx => h x hx.1

theorem inMask_bus {mask : Byte} {requester : Requester} (h : inMask mask requester = true) :
    requester ≠ .monitor := by
  rintro rfl
  cases h

theorem State.flush_changes (mask : Byte) (s : State) : s.Changes (s.flush mask).1 := by
  have hgoes (e : Entry) (he : e ∈ s.flushable mask) :
      e ∈ s.queue.entries ∧ e.state = .waiting ∧ inMask mask e.requester = true := by
    simpa [State.flushable] using he
  exact (State.completeAll_changes (fun e he => (hgoes e he).2.1)
    (fun e he => inMask_bus (hgoes e he).2.2) fun e he => .inl (hgoes e he).1).judged

/-! ### Events -/

theorem settableSource_ne_fault {b : Byte} {src : Source} (h : settableSource b = some src) :
    src ≠ .fault := by
  unfold settableSource at h
  split_ifs at h with hb
  rintro rfl
  have hvector := congrArg (Option.map Source.vector) h
  simp only [Option.map_some, Source.vector_ofVector, Option.some_inj] at hvector
  have hzero : b.toNat = 0 := congrArg Fin.val hvector
  omega

theorem State.setupEvent_changes (source level : Byte) (s : State) :
    s.Changes (s.setupEvent source level).1 := by
  unfold State.setupEvent
  split
  · next src hsrc =>
    split_ifs with hlevel
    · exact (State.Change.setLevel (settableSource_ne_fault hsrc) hlevel).changes.judged
    · exact .refl s
  · exact .refl s

theorem State.selected_aboveFloor {s : State} {src : Source} (h : s.selected = some src) :
    s.aboveFloor src = true :=
  (List.mem_filter.mp (pickMax_mem _ h)).2

theorem State.takeEvent_changes (s : State) : s.Changes s.takeEvent.1 := by
  unfold State.takeEvent
  split_ifs with hfull
  · exact .refl s
  · split
    · exact .refl s
    · next hsrc =>
      exact (State.Change.takeEvent (Nat.lt_of_not_le hfull)
        (State.selected_aboveFloor hsrc)).changes.judged

theorem State.restoreFloor_changes (s : State) : s.Changes s.restoreFloor.1 := by
  unfold State.restoreFloor
  split
  · exact .refl s
  · next hstack => exact (State.Change.restoreFloor hstack).changes.judged

theorem State.writeFloor_changes (value : Byte) (s : State) : s.Changes (s.writeFloor value).1 := by
  unfold State.writeFloor
  split_ifs with hvalue
  · exact (State.Change.setFloor hvalue).changes.judged
  · exact .refl s

theorem State.clearEvents_changes (mask : Half) (s : State) : s.Changes (s.clearEvents mask).1 :=
  (State.Change.clearEvents mask).changes.judged

/-! ### The commands that read, and the edges of SSN -/

theorem State.readQueue_fst (position : Byte) (s : State) : (s.readQueue position).1 = s := by
  unfold State.readQueue
  split_ifs
  · split <;> rfl
  · rfl

theorem State.readWindow_fst (index : Byte) (s : State) : (s.readWindow index).1 = s := by
  unfold State.readWindow
  split <;> rfl

theorem State.readClass_fst (number : Byte) (s : State) : (s.readClass number).1 = s := by
  unfold State.readClass
  split <;> rfl

/-- A command that changes nothing before its reply. -/
theorem serve_changes_of_fst {s t : State} {f : State → State × Reply} (hf : (f s).1 = s)
    (h : serve s f = .next t) : s.Changes t :=
  serve_changes (by rw [hf]; exact .refl s) h

theorem ssnRises_changes {f : FrameState} {sent : Nat} {s t : State}
    (h : ssnRises f sent s = .next t) : s.Changes t := by
  unfold ssnRises at h
  split_ifs at h <;> cases h
  · exact (State.Change.unseen (State.agrees_raiseSsn ..)).changes
  · exact .refl _

theorem execFrameStart_changes {s t : State} (h : execFrameStart s = .next t) : s.Changes t := by
  unfold execFrameStart at h
  split_ifs at h <;> cases h
  · exact .refl _
  all_goals exact (State.Change.unseen (by constructor <;> rfl)).changes

theorem execEndOfReply_changes {s t : State} (h : execEndOfReply s = .next t) : s.Changes t := by
  unfold execEndOfReply at h
  split_ifs at h <;> cases h
  · exact (State.Change.unseen (by constructor <;> rfl)).changes
  · exact .refl _

/-! ### Every command -/

/-- Every command but the two of RESETN is a chain of small changes. -/
theorem exec_changes {i : Instr} (hreset : i ≠ .hardReset) (hrelease : i ≠ .resetnRelease)
    {s t : State} (h : exec i s = .next t) : s.Changes t := by
  cases i with
  | requestTake o =>
    simp only [exec, execRequestTake] at h
    split_ifs at h with hwf
    cases h
    exact (State.offer_changes hwf s).trans (State.takeFront_changes _)
  | grant ready => exact execGrant_changes h
  | writeBackIssue ready => exact execWriteBackIssue_changes h
  | memoryAnswer n outcome data => exact execMemoryAnswer_changes h
  | holdTimerExpiry requester tag => exact exec_expiry_changes rfl h
  | responseTimerExpiry n => exact exec_expiry_changes rfl h
  | intervalExpiry => exact exec_expiry_changes rfl h
  | endOfRecovery => exact exec_expiry_changes rfl h
  | drainTimerExpiry => exact exec_expiry_changes rfl h
  | hardReset => exact absurd rfl hreset
  | resetnRelease => exact absurd rfl hrelease
  | frameStart => exact execFrameStart_changes h
  | frameDiscard => exact ssnRises_changes h
  | replyLost sent => exact ssnRises_changes h
  | unknownCommand code =>
    simp only [exec, execUnknownCommand] at h
    split_ifs at h
    exact serve_changes_of_fst rfl h
  | status => exact serve_changes_of_fst rfl h
  | queueRead position => exact serve_changes_of_fst (State.readQueue_fst ..) h
  | windowWrite index b => exact serve_changes (State.writeWindow_changes ..) h
  | windowRead index => exact serve_changes_of_fst (State.readWindow_fst ..) h
  | cursorSet index row column => exact serve_changes (State.placeCursor_changes ..) h
  | rotate index mode value => exact serve_changes (State.rotate_changes ..) h
  | classWrite number level mode budget carry =>
    exact serve_changes (State.writeClass_changes ..) h
  | classRead number => exact serve_changes_of_fst (State.readClass_fst ..) h
  | settingsWrite b => exact serve_changes (State.writeSettings_changes ..) h
  | settingsRead => exact serve_changes_of_fst rfl h
  | monitorRead address => exact serve_changes (State.monitorAccess_changes ..) h
  | monitorWrite address data => exact serve_changes (State.monitorAccess_changes ..) h
  | monitorResult => exact serve_changes (State.collectMonitor_changes _) h
  | eventSetup source level => exact serve_changes (State.setupEvent_changes ..) h
  | eventTake => exact serve_changes (State.takeEvent_changes _) h
  | eventRestore => exact serve_changes (State.restoreFloor_changes _) h
  | eventFloor value => exact serve_changes (State.writeFloor_changes ..) h
  | eventClear mask => exact serve_changes (State.clearEvents_changes ..) h
  | eventPeek => exact serve_changes_of_fst rfl h
  | flush mask => exact serve_changes (State.flush_changes ..) h
  | drain mask => exact serve_changes (State.startDrain_changes ..) h
  | resume => exact serve_changes (State.resume_changes _) h
  | faultClear => exact serve_changes (State.faultClear_changes _) h
  | defaults => exact serve_changes (State.restoreDefaults_changes _) h
  | frameEnd => exact ssnRises_changes h
  | endOfReply => exact execEndOfReply_changes h

/-- RESETN_RELEASE on an asserted RESETN (R83, R55). -/
def State.released (s : State) : State :=
  { s with
    resetAsserted := false, mem := { s.mem with mrstn := false },
    classTable := { s.classTable with length := s.settings.interval, timer := 0 } }

theorem exec_resetnRelease_of_asserted {s : State} (h : s.resetAsserted = true) :
    exec .resetnRelease s = .next s.released := if_pos h

theorem exec_resetnRelease_of_released {s : State} (h : s.resetAsserted = false) :
    exec .resetnRelease s = .next s := if_neg (Bool.eq_false_iff.mp h)

/-- Every command is HARD_RESET, RESETN's release, or a chain of small changes. -/
theorem exec_cases {i : Instr} {s t : State} (h : exec i s = .next t) :
    t = s.asserted ∨ (s.resetAsserted = true ∧ t = s.released) ∨ s.Changes t := by
  by_cases hreset : i = .hardReset
  · subst hreset
    cases h
    exact .inl rfl
  by_cases hrelease : i = .resetnRelease
  · subst hrelease
    cases hr : s.resetAsserted with
    | true =>
      rw [exec_resetnRelease_of_asserted hr] at h
      cases h
      exact .inr (.inl ⟨rfl, rfl⟩)
    | false =>
      rw [exec_resetnRelease_of_released hr] at h
      cases h
      exact .inr (.inr (.refl _))
  exact .inr (.inr (exec_changes hreset hrelease h))

/-- A step runs the front command on the rest of the queue, takes a due expiry, or lets 1 µs pass
(log 2, log 3). -/
theorem step_next {s t : State} (h : step s = .next t) :
    (∃ i rest, s.pending = i :: rest ∧ exec i { s with pending := rest } = .next t) ∨
    (∃ i ∈ s.due, exec i s.countFree = .next t) ∨ (s.due = [] ∧ t = s.advance 1) := by
  cases hpending : s.pending with
  | cons i rest =>
    rw [step, hpending] at h
    exact .inl ⟨i, rest, rfl, h⟩
  | nil =>
    by_cases hdue : s.due = []
    · rw [step_of_ownExpiry_none hpending (State.ownExpiry_of_due_eq_nil hdue)] at h
      cases h
      exact .inr (.inr ⟨hdue, rfl⟩)
    · obtain ⟨i, hi, hown⟩ := State.ownExpiry_of_due_ne_nil hdue
      rw [step_of_ownExpiry_some hpending hown] at h
      exact .inr (.inl ⟨i, hi, h⟩)

/-- Every step is a command on a state that agrees with the present one, or 1 µs. -/
theorem step_cases {s t : State} (h : step s = .next t) :
    (∃ i u, s.Agrees u ∧ exec i u = .next t) ∨ (s.nextWithin 1 = true ∧ t = s.advance 1) := by
  rcases step_next h with ⟨i, rest, -, hexec⟩ | ⟨i, -, hexec⟩ | ⟨hdue, ht⟩
  · exact .inl ⟨i, _, s.agrees_withPending rest, hexec⟩
  · exact .inl ⟨i, _, s.agrees_countFree, hexec⟩
  · exact .inr ⟨State.nextWithin_one_of_due_eq_nil hdue, ht⟩

/-- A law that the small changes, HARD_RESET and the release keep is kept by every step. -/
theorem step_keeps {P : State → Prop} (hchange : ∀ s t : State, s.Change t → P s → P t)
    (hasserted : ∀ s : State, P s → P s.asserted)
    (hreleased : ∀ s : State, P s → P s.released) {s t : State} (hs : P s)
    (h : step s = .next t) : P t := by
  rcases step_cases h with ⟨i, u, hagrees, hexec⟩ | ⟨hnext, rfl⟩
  · have hu : P u := hchange s u (.unseen hagrees) hs
    rcases exec_cases hexec with rfl | ⟨-, rfl⟩ | hchanges
    · exact hasserted u hu
    · exact hreleased u hu
    · exact hchanges.keeps hchange hu
  · exact hchange _ _ (.pass hnext) hs

end Sys2Proof.Machine
end

section
/-! SUPPORT. The completion of an entry (R38, R43, R153, R179), part by part: the delivery, WATCH, and what
drain control makes of it. -/

namespace Sys2Proof.Machine

open Sys2Proof

/-! ### The delivery (R38, R179) -/

theorem State.deliver_bus {e : Entry} {n : Fin 8} (h : e.requester = .bus n) (o : UpOutcome)
    (data : List Word) (s : State) :
    s.deliver e o data =
      (s.respond { requester := n, tag := e.tag, outcome := o, data := data }).setTagBusy n e.tag
        false := by
  rw [State.deliver, h]

theorem State.deliver_monitor {e : Entry} (h : e.requester = .monitor) (o : UpOutcome)
    (data : List Word) (s : State) :
    s.deliver e o data =
      (s.setMonitor { state := .done, outcome := MonitorOutcome.of o, data := data.headD 0 }).report
        .monitorDone
        { requester := some .monitor, address := e.physical, window := none, cls := some e.cls,
          code := (MonitorOutcome.of o).map .outcome } := by
  rw [State.deliver, h]

theorem State.deliver_drain (e : Entry) (o : UpOutcome) (data : List Word) (s : State) :
    (s.deliver e o data).drain = s.drain := by
  unfold State.deliver
  split <;> rfl

/-- R23: a delivery reports nothing but MONITOR_DONE. -/
theorem State.source_deliver_ne {src : Source} (h : src ≠ .monitorDone) (e : Entry) (o : UpOutcome)
    (data : List Word) (s : State) : (s.deliver e o data).source src = s.source src := by
  unfold State.deliver
  split
  · rfl
  · exact State.source_report_ne h _ _

/-! ### WATCH (R43) -/

theorem State.raiseWatch_watched {e : Entry} {w : Fin 16} (ho : e.origin = .window w) {s : State}
    (hw : s.windows[w].watch = true) :
    s.raiseWatch e = s.report .watch (e.detail (some e.kind.watchCode)) := by
  rw [State.raiseWatch, ho]
  exact if_pos hw

theorem State.raiseWatch_unwatched {e : Entry} {s : State}
    (h : ∀ w, e.origin = .window w → s.windows[w].watch = false) : s.raiseWatch e = s := by
  unfold State.raiseWatch
  split
  · next w ho => exact if_neg (by rw [h w ho]; nofun)
  · rfl
  · rfl

/-- WATCH or nothing. -/
theorem State.raiseWatch_cases (e : Entry) (s : State) :
    s.raiseWatch e = s ∨ ∃ d, s.raiseWatch e = s.report .watch d := by
  unfold State.raiseWatch
  split
  · split_ifs
    · exact .inr ⟨_, rfl⟩
    · exact .inl rfl
  · exact .inl rfl
  · exact .inl rfl

/-- R43: the code of the detail. -/
theorem EntryKind.watchCode_eq (k : EntryKind) :
    k.watchCode = if k.isBit then .bit else .plain := by
  cases k <;> rfl

/-! ### Drain control (R153) -/

/-- The last masked entry has left: drain control was waiting, the entry that left was masked, none is left. -/
def State.LastMasked (s : State) (requester : Requester) : Prop :=
  (s.drain.state = .draining ∨ s.drain.state = .stuck) ∧ inMask s.drain.mask requester = true ∧
    s.maskedEntry s.drain.mask = false

theorem State.informDrain_last {s : State} {requester : Requester} (h : s.LastMasked requester) :
    s.informDrain requester = { s with drain := { s.drain with state := .drained } } := if_pos h

theorem State.informDrain_other {s : State} {requester : Requester} (h : ¬ s.LastMasked requester) :
    s.informDrain requester = s := if_neg h

/-- Drain control's information writes the drain alone. -/
theorem State.informDrain_eq (requester : Requester) (s : State) :
    s.informDrain requester = { s with drain := (s.informDrain requester).drain } := by
  by_cases h : s.LastMasked requester
  · rw [State.informDrain_last h]
  · rw [State.informDrain_other h]

theorem State.maskedEntry_eq_false_iff {s : State} {mask : Byte} :
    s.maskedEntry mask = false ↔ ∀ e ∈ s.queue.entries, inMask mask e.requester = false := by
  simp [State.maskedEntry]

theorem State.maskedEntry_eq_true_iff {s : State} {mask : Byte} :
    s.maskedEntry mask = true ↔ ∃ e ∈ s.queue.entries, inMask mask e.requester = true := by
  simp [State.maskedEntry]

/-! ### The completion (R38) -/

/-- The completion up to drain control's information. -/
theorem State.complete_cases (e : Entry) (o : UpOutcome) (data : List Word) (wrote : Bool)
    (s : State) :
    s.complete e o data wrote =
      ((s.removeEntry e.id).deliver e o data).informDrain e.requester ∨
    ∃ d, s.complete e o data wrote =
      (((s.removeEntry e.id).deliver e o data).report .watch d).informDrain e.requester := by
  unfold State.complete
  dsimp only
  split_ifs
  · rcases State.raiseWatch_cases e ((s.removeEntry e.id).deliver e o data) with h | ⟨d, h⟩
    · exact .inl (by rw [h])
    · exact .inr ⟨d, by rw [h]⟩
  · exact .inl rfl

theorem State.complete_upstream (e : Entry) (o : UpOutcome) (data : List Word) (wrote : Bool)
    (s : State) :
    (s.complete e o data wrote).upstream = ((s.removeEntry e.id).deliver e o data).upstream := by
  rcases State.complete_cases e o data wrote s with h | ⟨d, h⟩
  · rw [h, State.informDrain_eq]
  · rw [h, State.informDrain_eq]
    rfl

theorem State.complete_service (e : Entry) (o : UpOutcome) (data : List Word) (wrote : Bool)
    (s : State) :
    (s.complete e o data wrote).service = ((s.removeEntry e.id).deliver e o data).service := by
  rcases State.complete_cases e o data wrote s with h | ⟨d, h⟩
  · rw [h, State.informDrain_eq]
  · rw [h, State.informDrain_eq]
    rfl

/-- Only the queue and the drain decide what drain control makes of a completion. -/
theorem State.informDrain_drain_congr {s t : State} (hq : t.queue = s.queue) (hd : t.drain = s.drain)
    (requester : Requester) : (t.informDrain requester).drain = (s.informDrain requester).drain := by
  have hlast : t.LastMasked requester ↔ s.LastMasked requester := by
    rw [State.LastMasked, State.LastMasked, State.maskedEntry, State.maskedEntry, hq, hd]
  by_cases h : s.LastMasked requester
  · rw [State.informDrain_last h, State.informDrain_last (hlast.mpr h), hd]
  · rw [State.informDrain_other h, State.informDrain_other (mt hlast.mp h), hd]

theorem State.complete_drain (e : Entry) (o : UpOutcome) (data : List Word) (wrote : Bool)
    (s : State) :
    (s.complete e o data wrote).drain = ((s.removeEntry e.id).informDrain e.requester).drain := by
  have hq := State.deliver_queue e o data (s.removeEntry e.id)
  have hd := State.deliver_drain e o data (s.removeEntry e.id)
  rcases State.complete_cases e o data wrote s with h | ⟨d, h⟩
  · rw [h]
    exact State.informDrain_drain_congr hq hd _
  · rw [h]
    exact State.informDrain_drain_congr (t := ((s.removeEntry e.id).deliver e o data).report .watch d)
      hq hd _

theorem State.source_informDrain (src : Source) (requester : Requester) (s : State) :
    (s.informDrain requester).source src = s.source src := by
  rw [State.informDrain_eq]
  rfl

/-- R38: a completion reports nothing but WATCH and MONITOR_DONE. -/
theorem State.source_complete_ne_watch {src : Source} (h : src ≠ .watch) (e : Entry)
    (o : UpOutcome) (data : List Word) (wrote : Bool) (s : State) :
    (s.complete e o data wrote).source src =
      ((s.removeEntry e.id).deliver e o data).source src := by
  rcases State.complete_cases e o data wrote s with hc | ⟨d, hc⟩
  · rw [hc, State.source_informDrain]
  · rw [hc, State.source_informDrain, State.source_report_ne h]

theorem State.source_watch_complete_of_watched {e : Entry} {w : Fin 16} {s : State}
    (ho : e.origin = .window w) (hw : s.windows[w].watch = true) (data : List Word) :
    (s.complete e .ok data true).source .watch =
      (s.source .watch).record (e.detail (some e.kind.watchCode)) := by
  have hwindows := (State.deliver_frame e .ok data (s.removeEntry e.id)).windows
  have hsource : ((s.removeEntry e.id).deliver e .ok data).source .watch = s.source .watch :=
    State.source_deliver_ne (src := .watch) nofun e .ok data (s.removeEntry e.id)
  unfold State.complete
  dsimp only
  rw [if_pos ⟨rfl, rfl⟩, State.source_informDrain,
    State.raiseWatch_watched ho (by rw [hwindows]; exact hw), State.source_report, hsource]

theorem State.source_watch_complete_of_unwatched {e : Entry} {s : State} {o : UpOutcome}
    {wrote : Bool}
    (h : o ≠ .ok ∨ wrote = false ∨ ∀ w, e.origin = .window w → s.windows[w].watch = false)
    (data : List Word) : (s.complete e o data wrote).source .watch = s.source .watch := by
  have hwindows := (State.deliver_frame e o data (s.removeEntry e.id)).windows
  have hsource : ((s.removeEntry e.id).deliver e o data).source .watch = s.source .watch :=
    State.source_deliver_ne (src := .watch) nofun e o data (s.removeEntry e.id)
  unfold State.complete
  dsimp only
  rw [State.source_informDrain]
  split_ifs with hwrote
  · have hunwatched := (h.resolve_left (not_not.mpr hwrote.1)).resolve_left (by simp [hwrote.2])
    rw [State.raiseWatch_unwatched (by rw [hwindows]; exact hunwatched), hsource]
  · exact hsource

/-- R153: the drain after a completion. -/
theorem State.complete_drain_last {s : State} {e : Entry} (o : UpOutcome) (data : List Word)
    (wrote : Bool) (h : (s.removeEntry e.id).LastMasked e.requester) :
    (s.complete e o data wrote).drain = { s.drain with state := .drained } := by
  rw [State.complete_drain, State.informDrain_last h]
  rfl

theorem State.complete_drain_other {s : State} {e : Entry} (o : UpOutcome) (data : List Word)
    (wrote : Bool) (h : ¬ (s.removeEntry e.id).LastMasked e.requester) :
    (s.complete e o data wrote).drain = s.drain := by
  rw [State.complete_drain, State.informDrain_other h]
  rfl

/-- R179: the outcome that the monitor result record holds. -/
theorem MonitorOutcome.of_eq (o : UpOutcome) :
    MonitorOutcome.of o =
      match o with
      | .ok => some .ok
      | .holdTimeout => some .holdTimeout
      | .memError => some .memError
      | .memTimeout => some .memTimeout
      | _ => none := by
  cases o <;> rfl

/-- The code of MONITOR_DONE's detail. -/
theorem outcomeCode_eq (held : Option MonitorOutcome) :
    held.map Code.outcome =
      match held with
      | some m => some (.outcome m)
      | none => none := by
  cases held <;> rfl

/-- Settles O19: each clause is about one part of the completion, and the frame is `State.complete_frame`. -/
theorem completionDeliversTheOutcome : Obligations.CompletionDeliversTheOutcome := by
  rintro s e o data wrote t rfl held
  have hframe := s.complete_frame e o data wrote
  have hqueue := s.complete_queue e o data wrote
  have hheld : MonitorOutcome.of o = held := MonitorOutcome.of_eq o
  refine ⟨hqueue, fun n hbus => ?bus, fun hmonitor => ?monitor,
    fun w hok hwrote horigin hwatch => ?watched, fun hquiet => ?unwatched,
    fun src hwatch hdone => ?others, fun hstate hmask hnone => ?drained, fun hkept => ?drainKept,
    hframe.pending, hframe.freeCount, hframe.resetAsserted, hframe.windows, hframe.cursors,
    hframe.settings, hframe.classTable, hframe.mem, hframe.slots, hframe.floor, hframe.stack,
    hframe.irqn⟩
  case bus =>
    rw [State.complete_upstream, State.complete_service,
      State.source_complete_ne_watch (src := .monitorDone) nofun,
      State.deliver_bus hbus]
    exact ⟨rfl, rfl, rfl⟩
  case monitor =>
    rw [State.complete_upstream, State.complete_service,
      State.source_complete_ne_watch (src := .monitorDone) nofun,
      State.deliver_monitor hmonitor, State.source_report, hheld, outcomeCode_eq]
    exact ⟨rfl, rfl, rfl⟩
  case watched =>
    subst hok hwrote
    rw [State.source_watch_complete_of_watched horigin hwatch, Entry.detail, horigin,
      EntryKind.watchCode_eq]
    rfl
  case unwatched => exact State.source_watch_complete_of_unwatched hquiet data
  case others =>
    rw [State.source_complete_ne_watch hwatch]
    exact State.source_deliver_ne hdone _ _ _ _
  case drained =>
    rw [hqueue] at hnone
    exact State.complete_drain_last o data wrote
      ⟨hstate, hmask, State.maskedEntry_eq_false_iff.mpr hnone⟩
  case drainKept =>
    refine State.complete_drain_other o data wrote ?_
    rintro ⟨hstate, hmask, hnone⟩
    rcases hkept with h | h | h | ⟨x, hx, h⟩
    · rcases hstate with h' | h' <;> exact nomatch h.symm.trans h'
    · rcases hstate with h' | h' <;> exact nomatch h.symm.trans h'
    · exact nomatch h.symm.trans hmask
    · rw [hqueue] at hx
      exact nomatch h.symm.trans (State.maskedEntry_eq_false_iff.mp hnone x hx)

end Sys2Proof.Machine
end

section
/-! SUPPORT. The laws of the tables, the settings, the classes and the events: each is kept by every small
change (`State.Change`), so by every step. -/

namespace Sys2Proof.Machine

open Sys2Proof

/-! ### What the longer changes leave alone -/

theorem State.advance_windows (k : Nat) (s : State) : (s.advance k).windows = s.windows := by
  unfold State.advance
  split <;> rfl

theorem State.advance_cursors (k : Nat) (s : State) : (s.advance k).cursors = s.cursors := by
  unfold State.advance
  split <;> rfl

theorem State.advance_settings (k : Nat) (s : State) : (s.advance k).settings = s.settings := by
  unfold State.advance
  split <;> rfl

theorem State.advance_classes (k : Nat) (s : State) :
    (s.advance k).classTable.classes = s.classTable.classes := by
  unfold State.advance
  split <;> rfl

theorem State.advance_events (k : Nat) (s : State) : (s.advance k).events = s.events := by
  unfold State.advance
  split <;> rfl

theorem State.stallIfNoTag_eq (s : State) :
    s.stallIfNoTag = { s with mem := { s.mem with port := s.stallIfNoTag.mem.port } } := by
  unfold State.stallIfNoTag
  split <;> rfl

theorem State.stallIfNoTag_windows (s : State) : s.stallIfNoTag.windows = s.windows := by
  rw [State.stallIfNoTag_eq]

theorem State.stallIfNoTag_cursors (s : State) : s.stallIfNoTag.cursors = s.cursors := by
  rw [State.stallIfNoTag_eq]

theorem State.stallIfNoTag_settings (s : State) : s.stallIfNoTag.settings = s.settings := by
  rw [State.stallIfNoTag_eq]

theorem State.stallIfNoTag_classTable (s : State) : s.stallIfNoTag.classTable = s.classTable := by
  rw [State.stallIfNoTag_eq]

theorem State.emptyIfEdge_eq (src : Source) (s : State) :
    s.emptyIfEdge src =
      { s with events := { s.events with sources := (s.emptyIfEdge src).events.sources } } := by
  unfold State.emptyIfEdge
  split <;> rfl

/-! ### Windows and cursors -/

theorem State.TablesLegal.congr {s t : State} (h : s.TablesLegal) (hw : t.windows = s.windows)
    (hc : t.cursors = s.cursors) : t.TablesLegal where
  window := by rw [hw]; exact h.window
  cursorExists := by rw [hw, hc]; exact h.cursorExists
  cursorInside := by rw [hw, hc]; exact h.cursorInside

/-- A table read after one of its records is written. -/
theorem getElem_set_fin {α : Type} {m : Nat} (v : Vector α m) (i j : Fin m) (x : α) :
    (v.set i x)[j] = if j = i then x else v[j] := by
  simp only [Fin.getElem_fin, Vector.getElem_set, Fin.ext_iff, eq_comm]

/-- One record and its cursor are written together. -/
theorem State.TablesLegal.set {s : State} (h : s.TablesLegal) (w : Fin 16) {r : WindowRecord}
    {c : Option Cursor} (hr : r.Legal) (hexists : c.isSome = true ↔ r.valid = true ∧ r.kind = .aperture)
    (hinside : ∀ x, c = some x → x.Inside r) :
    ((s.setWindow w r).setCursor w c).TablesLegal where
  window v := by
    simp only [State.setCursor_windows, State.setWindow_windows, getElem_set_fin]
    split_ifs
    · exact hr
    · exact h.window v
  cursorExists v := by
    simp only [State.setCursor_windows, State.setWindow_windows, State.setCursor_cursors,
      State.setWindow_cursors, getElem_set_fin]
    split_ifs
    · exact hexists
    · exact h.cursorExists v
  cursorInside v x := by
    simp only [State.setCursor_windows, State.setWindow_windows, State.setCursor_cursors,
      State.setWindow_cursors, getElem_set_fin]
    split_ifs
    · exact hinside x
    · exact h.cursorInside v x

theorem WindowRecord.newCursor_isSome (r : WindowRecord) :
    r.newCursor.isSome = true ↔ r.valid = true ∧ r.kind = .aperture := by
  rw [WindowRecord.newCursor]
  split_ifs with h <;> simp [h]

theorem WindowRecord.newCursor_inside {r : WindowRecord} (h : r.Legal) {c : Cursor}
    (hc : r.newCursor = some c) : c.Inside r := by
  obtain ⟨⟨hvalid, hkind⟩, ⟨⟩⟩ := Option.ite_none_right_eq_some.mp hc
  exact Cursor.start_inside h hvalid hkind

/-- R128, R129: a record stays legal under a new start among its rotating blocks. -/
theorem WindowRecord.Legal.turned {r : WindowRecord} (h : r.Legal) (hvalid : r.valid = true)
    (hring : r.kind = .ring) {start : Nat} (hstart : 0 < r.rotating → start < r.rotating) :
    WindowRecord.Legal { r with ringS := start } := by
  obtain ⟨hk8, hk16, hn2, hn256, hblocks, hb, ht, hzones, -, hroom⟩ := h.ring hvalid hring
  have hlt : start < r.rotating := hstart (by unfold WindowRecord.rotating; omega)
  unfold WindowRecord.rotating at hlt
  exact {
    zeroed := fun hinvalid => nomatch hvalid.symm.trans hinvalid
    range := h.range
    pass := h.pass
    ring := fun _ _ => ⟨hk8, hk16, hn2, hn256, hblocks, hb, ht, hzones, by dsimp only; omega, hroom⟩
    aperture := h.aperture
    bitop := h.bitop
    notRing := fun hk => absurd hring hk
    notAperture := h.notAperture }

/-- The same record written back changes nothing. -/
theorem State.setWindow_self (w : Fin 16) (s : State) : s.setWindow w s.windows[w] = s := by
  simp [State.setWindow]

theorem State.setCursor_self (w : Fin 16) (s : State) : s.setCursor w s.cursors[w] = s := by
  simp [State.setCursor]

theorem State.Change.tablesLegal {s t : State} (hchange : s.Change t) (h : s.TablesLegal) :
    t.TablesLegal := by
  cases hchange with
  | unseen hagrees => exact h.congr hagrees.windows hagrees.cursors
  | pass _ => exact h.congr (s.advance_windows _) (s.advance_cursors _)
  | storeWindow w hlegal =>
    exact h.set w hlegal (WindowRecord.newCursor_isSome _) fun _ =>
      WindowRecord.newCursor_inside hlegal
  | @turn w start hvalid hring hstart =>
    have hr := (h.window w).turned hvalid hring hstart
    have hc : s.cursors[w].isSome = false :=
      Bool.eq_false_iff.mpr fun hsome => nomatch hring.symm.trans ((h.cursorExists w).mp hsome).2
    have hset := h.set w (c := s.cursors[w]) hr
      ⟨fun hsome => (h.cursorExists w).mp hsome, fun hkind => (h.cursorExists w).mpr hkind⟩
      fun x hx => by rw [hx] at hc; cases hc
    exact hset.congr rfl (congrArg State.cursors
      (State.setCursor_self w (s.setWindow w { s.windows[w] with ringS := start })).symm)
  | @moveCursor w c hvalid haperture hinside =>
    have hset := h.set w (c := some c) (h.window w) ⟨fun _ => ⟨hvalid, haperture⟩, fun _ => rfl⟩
      fun x hx => by cases hx; exact hinside h
    rwa [State.setWindow_self] at hset
  | defaults =>
    exact {
      window := fun w => by simpa using WindowRecord.zeroed_legal
      cursorExists := fun w => by simp [WindowRecord.zeroed]
      cursorInside := fun w c hc => by simp at hc }
  | completeWaiting o _ _ _ =>
    exact h.congr (State.complete_frame ..).windows (State.complete_frame ..).cursors
  | plainDone _ _ o data wrote =>
    exact h.congr (State.complete_frame ..).windows (State.complete_frame ..).cursors
  | accessEnds _ o data wrote =>
    exact h.congr (State.complete_frame ..).windows (State.complete_frame ..).cursors
  | timesOut _ o =>
    exact h.congr ((State.stallIfNoTag_windows _).trans (State.complete_frame ..).windows)
      ((State.stallIfNoTag_cursors _).trans (State.complete_frame ..).cursors)
  | orphanTimesOut _ => exact h.congr (State.stallIfNoTag_windows _) (State.stallIfNoTag_cursors _)
  | takeEvent _ _ =>
    rw [State.emptyIfEdge_eq]
    exact h.congr rfl rfl
  | _ => exact h.congr rfl rfl

/-! ### Settings -/

theorem Settings.reset_legal : Settings.reset.Legal := by constructor <;> decide

theorem State.Change.settingsLegal {s t : State} (hchange : s.Change t) (h : s.settings.Legal) :
    t.settings.Legal := by
  cases hchange with
  | unseen hagrees => rwa [hagrees.settings]
  | pass _ => rwa [State.advance_settings]
  | setSettings hlegal => exact hlegal
  | defaults => exact Settings.reset_legal
  | completeWaiting o _ _ _ => rwa [(State.complete_frame ..).settings]
  | plainDone _ _ o data wrote =>
    rw [(State.complete_frame ..).settings]
    exact h
  | accessEnds _ o data wrote =>
    rw [(State.complete_frame ..).settings]
    exact h
  | timesOut _ o =>
    rw [State.stallIfNoTag_settings, (State.complete_frame ..).settings]
    exact h
  | orphanTimesOut _ =>
    rw [State.stallIfNoTag_settings]
    exact h
  | takeEvent _ _ =>
    rw [State.emptyIfEdge_eq]
    exact h
  | _ => exact h

theorem State.reset_tablesLegal : State.reset.TablesLegal where
  window w := by simpa [State.reset] using WindowRecord.zeroed_legal
  cursorExists w := by simp [State.reset, WindowRecord.zeroed]
  cursorInside w c hc := by simp [State.reset] at hc

/-! ### Classes -/

theorem State.ClassesLegal.congr {s t : State} (h : s.ClassesLegal)
    (hc : t.classTable.classes = s.classTable.classes) : t.ClassesLegal := by
  rw [State.ClassesLegal, hc]
  exact h

theorem ClassRecord.reset_legal : ClassRecord.reset.Legal := by constructor <;> decide

/-- R57: after a refill the credit lies between the budget less 7 and budget plus carry limit. -/
theorem ClassRecord.Legal.refilled {c : ClassRecord} (h : c.Legal) : c.refilled.Legal := by
  have hlow := h.low
  refine ⟨?_, ?_, Nat.zero_le _, h.usedNow⟩
  · simp only [ClassRecord.refilled]
    omega
  · simp only [ClassRecord.refilled]
    omega

theorem State.Change.classesLegal {s t : State} (hchange : s.Change t) (hqueue : s.QueueLegal)
    (h : s.ClassesLegal) : t.ClassesLegal := by
  cases hchange with
  | unseen hagrees => exact h.congr (by rw [hagrees.classTable])
  | pass _ => exact h.congr (s.advance_classes _)
  | @setClass k c hlegal =>
    intro j
    simp only [State.setClass_classTable_classes, getElem_set_fin]
    split_ifs
    · exact hlegal hqueue (h k)
    · exact h j
  | endInterval =>
    intro k
    simpa using (h k).refilled
  | defaults =>
    intro k
    simpa using ClassRecord.reset_legal
  | completeWaiting o _ _ _ => exact h.congr (by rw [(State.complete_frame ..).classTable])
  | plainDone _ _ o data wrote =>
    exact h.congr (congrArg ClassTable.classes (State.complete_frame ..).classTable)
  | accessEnds _ o data wrote =>
    exact h.congr (congrArg ClassTable.classes (State.complete_frame ..).classTable)
  | timesOut _ o =>
    exact h.congr (congrArg ClassTable.classes
      ((State.stallIfNoTag_classTable _).trans (State.complete_frame ..).classTable))
  | orphanTimesOut _ =>
    exact h.congr (congrArg ClassTable.classes (State.stallIfNoTag_classTable _))
  | takeEvent _ _ =>
    rw [State.emptyIfEdge_eq]
    exact h.congr rfl
  | _ => exact h.congr rfl

theorem State.reset_classesLegal : State.reset.ClassesLegal := by
  intro k
  simpa [State.reset] using ClassRecord.reset_legal

/-! ### Events -/

theorem State.source_eq_of_sources {s t : State} (h : t.events.sources = s.events.sources)
    (src : Source) : t.source src = s.source src := by
  rw [State.source, h, State.source]

theorem State.EventsLegal.congr {s t : State} (h : s.EventsLegal)
    (hsources : t.events.sources = s.events.sources) (hfloor : t.events.floor = s.events.floor)
    (hstack : t.events.stack = s.events.stack) : t.EventsLegal where
  source src := by rw [State.source_eq_of_sources hsources]; exact h.source src
  floor := by rw [hfloor]; exact h.floor
  depth := by rw [hstack]; exact h.depth
  saved := by rw [hstack]; exact h.saved

/-- R134: an occurrence keeps the record of an edge source legal. -/
theorem SourceRecord.Legal.record {r : SourceRecord} {src : Source} (h : r.Legal src)
    (hedge : src.isLevel = false) (d : Detail) : (r.record d).Legal src := by
  unfold SourceRecord.record
  split_ifs with hpending
  · exact ⟨h.level, Nat.min_le_left _ _, fun hidle => (nomatch hpending.symm.trans hidle),
      fun _ _ => by dsimp only; omega, fun hlevel => (nomatch hedge.symm.trans hlevel)⟩
  · exact ⟨h.level, by dsimp only; omega, nofun, fun _ _ => Nat.le_refl 1,
      fun hlevel => (nomatch hedge.symm.trans hlevel)⟩

theorem SourceRecord.Legal.emptied {r : SourceRecord} {src : Source} (h : r.Legal src) :
    r.emptied.Legal src :=
  ⟨h.level, Nat.zero_le _, fun _ => ⟨rfl, rfl⟩, fun _ => nofun, fun _ => ⟨rfl, rfl⟩⟩

theorem SourceRecord.Legal.withLevel {r : SourceRecord} {src : Source} (h : r.Legal src)
    (hsrc : src ≠ .fault) {level : Nat} (hlevel : level ≤ 7) :
    SourceRecord.Legal { r with level := level } src :=
  ⟨by rw [if_neg hsrc]; exact hlevel, h.count, h.idle, h.edge, h.condition⟩

/-- R135: a judgement moves the pending field of a level source only, whose record is otherwise empty. -/
theorem SourceRecord.Legal.withPending {r : SourceRecord} {src : Source} (h : r.Legal src)
    {pending : Bool} (hp : src.isLevel = false → pending = r.pending) :
    SourceRecord.Legal { r with pending := pending } src := by
  cases hlevel : src.isLevel with
  | true =>
    have hempty := h.condition hlevel
    exact ⟨h.level, h.count, fun _ => hempty, fun hedge => (nomatch hlevel.symm.trans hedge),
      fun _ => hempty⟩
  | false =>
    rw [hp hlevel]
    exact h

/-- R135: an edge source's pending field is its record's. -/
theorem State.judgedPending_of_edge {src : Source} (h : src.isLevel = false) (s : State) :
    s.judgedPending src = (s.source src).pending := by
  cases src with
  | fault => cases h
  | apertureEnd => cases h
  | drain => cases h
  | queueHigh => cases h
  | _ => rfl

theorem State.EventsLegal.setSource {s : State} (h : s.EventsLegal) {src : Source}
    {r : SourceRecord} (hr : r.Legal src) : (s.setSource src r).EventsLegal where
  source other := by
    by_cases heq : other = src
    · rw [heq, State.source_setSource]
      exact hr
    · rw [State.source_setSource_ne heq]
      exact h.source other
  floor := h.floor
  depth := h.depth
  saved := h.saved

theorem State.EventsLegal.report {s : State} (h : s.EventsLegal) {src : Source}
    (hedge : src.isLevel = false) (d : Detail) : (s.report src d).EventsLegal :=
  h.setSource ((h.source src).record hedge d)

theorem State.EventsLegal.judge {s : State} (h : s.EventsLegal) : s.judge.EventsLegal where
  source src := by
    rw [State.source_judge]
    exact (h.source src).withPending fun hedge => State.judgedPending_of_edge hedge s
  floor := h.floor
  depth := h.depth
  saved := h.saved

theorem State.EventsLegal.deliver {s : State} (h : s.EventsLegal) (e : Entry) (o : UpOutcome)
    (data : List Word) : (s.deliver e o data).EventsLegal := by
  unfold State.deliver
  split
  · exact h.congr rfl rfl rfl
  · have hmonitor : (s.setMonitor
        { state := .done, outcome := MonitorOutcome.of o, data := data.headD 0 }).EventsLegal :=
      h.congr rfl rfl rfl
    exact hmonitor.report (src := .monitorDone) rfl _

theorem State.EventsLegal.informDrain {s : State} (h : s.EventsLegal) (requester : Requester) :
    (s.informDrain requester).EventsLegal := by
  rw [State.informDrain_eq]
  exact h.congr rfl rfl rfl

theorem State.EventsLegal.complete {s : State} (h : s.EventsLegal) (e : Entry) (o : UpOutcome)
    (data : List Word) (wrote : Bool) : (s.complete e o data wrote).EventsLegal := by
  have hremoved : (s.removeEntry e.id).EventsLegal := h.congr rfl rfl rfl
  have hdelivered := hremoved.deliver e o data
  rcases State.complete_cases e o data wrote s with hc | ⟨d, hc⟩
  · rw [hc]
    exact hdelivered.informDrain _
  · rw [hc]
    exact (hdelivered.report (src := .watch) rfl d).informDrain _

/-- R142: the floor that is saved lies below the level of the source taken. -/
theorem State.EventsLegal.takeEvent {s : State} (h : s.EventsLegal) {src : Source}
    (hroom : s.events.stack.length < 4) (habove : s.aboveFloor src = true) :
    ((s.raiseFloor (s.source src).level).emptyIfEdge src).EventsLegal := by
  have hlevel : (s.source src).level ≤ 8 := by
    by_cases hsrc : src = .fault
    · rw [hsrc, h.level_fault]
    · exact Nat.le_succ_of_le (h.level_le_seven hsrc)
  have hsaved : s.events.floor ≤ 7 := by
    have := ((s.aboveFloor_iff src).mp habove).2
    omega
  have hraised : (s.raiseFloor (s.source src).level).EventsLegal :=
    { source := h.source, floor := hlevel, depth := Nat.succ_le_of_lt hroom,
      saved := List.forall_mem_cons.mpr ⟨hsaved, h.saved⟩ }
  unfold State.emptyIfEdge
  split_ifs
  · exact hraised
  · exact hraised.setSource (h.source src).emptied

theorem State.EventsLegal.restoreFloor {s : State} (h : s.EventsLegal) {top : Nat} {rest : List Nat}
    (hstack : s.events.stack = top :: rest) :
    State.EventsLegal { s with events := { s.events with floor := top, stack := rest } } := by
  have hsaved := h.saved
  have hdepth := h.depth
  rw [hstack] at hsaved hdepth
  rw [List.forall_mem_cons] at hsaved
  exact ⟨h.source, Nat.le_succ_of_le hsaved.1, Nat.le_of_succ_le hdepth, hsaved.2⟩

/-- The record of a source after EVENT-CLEAR. -/
theorem State.source_cleared (mask : Half) (s : State) (src : Source) :
    State.source
      { s with events := { s.events with sources := Vector.ofFn fun i => s.clearRecord mask i } }
      src = s.clearRecord mask src.vector := by
  simp [State.source]

theorem State.EventsLegal.clearEvents {s : State} (h : s.EventsLegal) (mask : Half) :
    State.EventsLegal
      { s with events := { s.events with sources := Vector.ofFn fun i => s.clearRecord mask i } } where
  source src := by
    rw [State.source_cleared, State.clearRecord]
    split_ifs
    · exact (h.source src).emptied
    · exact h.source src
  floor := h.floor
  depth := h.depth
  saved := h.saved

theorem State.Change.eventsLegal {s t : State} (hchange : s.Change t) (h : s.EventsLegal) :
    t.EventsLegal := by
  cases hchange with
  | unseen hagrees => exact h.congr hagrees.sources hagrees.floor hagrees.stack
  | pass _ =>
    have hevents := s.advance_events
    exact h.congr (by rw [hevents]) (by rw [hevents]) (by rw [hevents])
  | report hedge d => exact h.report hedge d
  | judge => exact h.judge
  | setLevel hsrc hlevel => exact h.setSource ((h.source _).withLevel hsrc hlevel)
  | takeEvent hroom habove => exact h.takeEvent hroom habove
  | restoreFloor hstack => exact h.restoreFloor hstack
  | setFloor hlevel => exact h.withFloor (Nat.le_succ_of_le hlevel)
  | clearEvents mask => exact h.clearEvents mask
  | completeWaiting o _ _ _ => exact h.complete _ o [] false
  | @plainDone e n p _ _ o data wrote =>
    have hfreed : (s.setTag n .free).EventsLegal := h.congr rfl rfl rfl
    exact hfreed.complete e o data wrote
  | @accessEnds e n p _ o data wrote =>
    have hfreed : ((s.setTag n .free).releaseSlot e.id).EventsLegal := h.congr rfl rfl rfl
    exact hfreed.complete e o data wrote
  | @timesOut e n p _ o =>
    have hfreed : ((s.setTag n .quarantined).releaseSlot e.id).EventsLegal := h.congr rfl rfl rfl
    rw [State.stallIfNoTag_eq]
    exact (hfreed.complete e o [] false).congr rfl rfl rfl
  | orphanTimesOut _ =>
    rw [State.stallIfNoTag_eq]
    exact h.congr rfl rfl rfl
  | _ => exact h.congr rfl rfl rfl

theorem EventController.reset_source (src : Source) :
    EventController.reset.sources[src.vector] =
      if src = .fault then SourceRecord.resetFault else SourceRecord.reset := by
  cases src <;> rfl

theorem State.reset_eventsLegal : State.reset.EventsLegal where
  source src := by
    have hsource : State.reset.source src = _ := EventController.reset_source src
    rw [hsource]
    cases src <;> constructor <;> decide
  floor := by decide
  depth := by decide
  saved := nofun

end Sys2Proof.Machine
end

section
/-! SUPPORT. The laws of the queue: what becomes of its entries in a small change, and that entries stay
named, placed and known to the occupancy flags, the monitor result record and drain control. -/

namespace Sys2Proof.Machine

open Sys2Proof

/-! ### Entries that go on -/

/-- The same request: what an entry keeps from its admission on. -/
structure Entry.Continues (e' e : Entry) : Prop where
  requester : e'.requester = e.requester
  tag : e'.tag = e.tag
  origin : e'.origin = e.origin
  physical : e'.physical = e.physical
  length : e'.length = e.length

theorem Entry.Continues.refl (e : Entry) : e.Continues e := ⟨rfl, rfl, rfl, rfl, rfl⟩

theorem Entry.Continues.id {e' e : Entry} (h : e'.Continues e) : e'.id = e.id := by
  rw [Entry.id, h.requester, h.tag, Entry.id]

theorem Entry.continues_aged (k : Nat) (e : Entry) : (e.aged k).Continues e :=
  ⟨rfl, rfl, rfl, rfl, rfl⟩

theorem Entry.continues_granted (n : Fin 8) (e : Entry) : (e.granted n).Continues e :=
  ⟨rfl, rfl, rfl, rfl, rfl⟩

theorem Entry.continues_writingBack (e : Entry) : e.writingBack.Continues e :=
  ⟨rfl, rfl, rfl, rfl, rfl⟩

/-- The queue holds the same requests in the same order. -/
def State.QueueContinues (s t : State) : Prop :=
  ∃ f : Entry → Entry, (∀ e, (f e).Continues e) ∧ t.queue.entries = s.queue.entries.map f

theorem State.QueueContinues.of_eq {s t : State} (h : t.queue.entries = s.queue.entries) :
    s.QueueContinues t := ⟨fun e => e, Entry.Continues.refl, by rw [h, List.map_id']⟩

theorem State.QueueContinues.of_change {s t : State} {name : EntryId} {f : Entry → Entry}
    (hf : ∀ e, (f e).Continues e) (h : t.queue.entries = changeEntry name f s.queue.entries) :
    s.QueueContinues t := by
  refine ⟨_, fun e => ?_, h⟩
  split_ifs
  · exact hf e
  · exact .refl e

theorem State.queueContinues_advance (k : Nat) (s : State) : s.QueueContinues (s.advance k) := by
  by_cases h : s.resetAsserted = true
  · rw [State.advance_asserted h]
    exact .of_eq rfl
  · exact ⟨_, Entry.continues_aged k, State.advance_entries (Bool.eq_false_iff.mpr h) k⟩

/-- Every entry was there before. -/
theorem State.QueueContinues.mem {s t : State} (h : s.QueueContinues t) {e : Entry}
    (he : e ∈ t.queue.entries) : ∃ e' ∈ s.queue.entries, e.Continues e' := by
  obtain ⟨f, hf, hentries⟩ := h
  rw [hentries] at he
  obtain ⟨e', he', rfl⟩ := List.mem_map.mp he
  exact ⟨e', he', hf e'⟩

/-- Every entry is still there. -/
theorem State.QueueContinues.mem_of_mem {s t : State} (h : s.QueueContinues t) {e : Entry}
    (he : e ∈ s.queue.entries) : ∃ e' ∈ t.queue.entries, e'.Continues e := by
  obtain ⟨f, hf, hentries⟩ := h
  exact ⟨f e, by rw [hentries]; exact List.mem_map_of_mem he, hf e⟩

theorem State.QueueContinues.names {s t : State} (h : s.QueueContinues t) :
    t.queue.entries.map Entry.id = s.queue.entries.map Entry.id := by
  obtain ⟨f, hf, hentries⟩ := h
  rw [hentries, List.map_map]
  exact List.map_congr_left fun e _ => (hf e).id

theorem State.QueueContinues.length {s t : State} (h : s.QueueContinues t) :
    t.queue.entries.length = s.queue.entries.length := by
  obtain ⟨f, -, hentries⟩ := h
  rw [hentries, List.length_map]

/-- A property of the requester is met by an entry of one queue when it is by one of the other. -/
theorem State.QueueContinues.exists_iff {s t : State} (h : s.QueueContinues t)
    (p : Requester → Fin 4 → Prop) :
    (∃ e ∈ t.queue.entries, p e.requester e.tag) ↔ ∃ e ∈ s.queue.entries, p e.requester e.tag := by
  constructor
  · rintro ⟨e, he, hp⟩
    obtain ⟨e', he', hsame⟩ := h.mem he
    exact ⟨e', he', by rwa [hsame.requester, hsame.tag] at hp⟩
  · rintro ⟨e, he, hp⟩
    obtain ⟨e', he', hsame⟩ := h.mem_of_mem he
    exact ⟨e', he', by rwa [hsame.requester, hsame.tag]⟩

theorem State.QueueContinues.maskedEntry {s t : State} (h : s.QueueContinues t) (mask : Byte) :
    t.maskedEntry mask = s.maskedEntry mask := by
  rw [Bool.eq_iff_iff, State.maskedEntry_eq_true_iff, State.maskedEntry_eq_true_iff]
  exact h.exists_iff fun requester _ => inMask mask requester = true

theorem State.complete_entries (e : Entry) (o : UpOutcome) (data : List Word) (wrote : Bool)
    (s : State) :
    (s.complete e o data wrote).queue.entries = s.queue.entries.filter (fun x => x.id ≠ e.id) := by
  rw [State.complete_queue]

theorem State.mem_complete_iff {e x : Entry} {o : UpOutcome} {data : List Word} {wrote : Bool}
    {s : State} :
    x ∈ (s.complete e o data wrote).queue.entries ↔ x ∈ s.queue.entries ∧ x.id ≠ e.id := by
  rw [State.complete_entries, List.mem_filter, decide_eq_true_eq]

theorem State.stallIfNoTag_queue (s : State) : s.stallIfNoTag.queue = s.queue := by
  rw [State.stallIfNoTag_eq]

/-! ### Where entries lie (R14, R15, R125) -/

/-- `n` words from an aligned physical address lie in the physical space. -/
def Placed (physical : Word) (n : Nat) : Prop :=
  physical.toNat % 4 = 0 ∧ physical.toNat + 4 * n ≤ addressSpace

theorem aligned_iff (a : Word) : aligned a = true ↔ a.toNat % 4 = 0 := by
  simp [aligned]

/-- R22: what the form of a request says about its words. -/
theorem Request.words_of_wf {r : Request} (h : r.wf = true) :
    r.address.toNat % 4 = 0 ∧ 1 ≤ r.length ∧ r.length ≤ 8 := by
  unfold Request.wf at h
  simp only [Bool.and_eq_true, decide_eq_true_eq] at h
  obtain ⟨⟨⟨⟨haligned, hmin⟩, hmax⟩, -⟩, -⟩ := h
  exact ⟨(aligned_iff _).mp haligned, hmin, hmax⟩

/-- R14: a request whose first and last words lie in a window lies in it whole. -/
theorem State.Reaches.inside {s : State} {r : Request} {w : Fin 16} (h : s.Reaches r w)
    (hlegal : s.windows[w].Legal) (hwf : r.wf = true) :
    s.windows[w].base.toNat ≤ r.address.toNat ∧
      r.address.toNat + 4 * r.length ≤ s.windows[w].base.toNat + s.windows[w].size.toNat := by
  obtain ⟨haddress, hmin, -⟩ := Request.words_of_wf hwf
  obtain ⟨⟨hvalid, hbase, -⟩, -⟩ := State.lookup_eq_some_iff.mp h.found
  obtain ⟨hbase16, hsize16, -, -, -⟩ := hlegal.range hvalid
  have hspan := h.span
  unfold lastWord at hspan
  omega

/-- R7: PASS moves the request to the target. -/
theorem WindowRecord.Legal.placed_pass {w : WindowRecord} (h : w.Legal) (hvalid : w.valid = true)
    (hk : w.kind = .pass) {a : Word} {n : Nat} (ha : a.toNat % 4 = 0) (hn : 1 ≤ n)
    (hbase : w.base.toNat ≤ a.toNat) (htop : a.toNat + 4 * n ≤ w.base.toNat + w.size.toNat) :
    Placed (w.target + (a - w.base)) n := by
  obtain ⟨hbase16, -, -, -, htarget⟩ := h.range hvalid
  rw [hk] at htarget
  have htarget16 : w.target.toNat % 16 = 0 := htarget
  have hroom := h.pass hvalid hk
  unfold addressSpace at hroom
  have hvalue : (w.target + (a - w.base)).toNat = w.target.toNat + (a.toNat - w.base.toNat) := by
    rw [BitVec.toNat_add, BitVec.toNat_sub_of_le (BitVec.le_def.mpr hbase)]
    omega
  unfold Placed addressSpace
  omega

/-- R8, R125: a request inside one block lies inside the block's image. -/
theorem WindowRecord.Legal.placed_ring {w : WindowRecord} (h : w.Legal) (hvalid : w.valid = true)
    (hk : w.kind = .ring) {o n : Nat} (ho : o % 4 = 0) (hn : 1 ≤ n) (htop : o + 4 * n ≤ w.size.toNat)
    (hblock : o / w.blockSize = (o + 4 * (n - 1)) / w.blockSize) : Placed (ringAddress w o) n := by
  obtain ⟨hk8, -, -, -, hsize, -, htarget, -, -, hroom⟩ := h.ring hvalid hk
  have haddress := h.ringAddress_toNat hvalid hk (o := o) (by omega)
  obtain ⟨c, hc⟩ : ∃ c, w.blockSize = 4 * c :=
    ⟨2 ^ (w.ringK - 2), by rw [WindowRecord.blockSize, ← Nat.pow_add 2 2 (w.ringK - 2)]; congr 1; omega⟩
  have hpositive := w.blockSize_pos
  have hsize' : w.size.toNat = w.ringN * w.blockSize := hsize
  have htarget4 : w.target.toNat % 4 = 0 := by
    obtain ⟨q, hq⟩ := Nat.dvd_of_mod_eq_zero htarget
    have hq' : w.target.toNat = 4 * (c * q) := by rw [hq, ← Nat.mul_assoc, ← hc, WindowRecord.blockSize]
    omega
  have hposition : o % w.blockSize + 4 * n ≤ w.blockSize := by
    have hfirst := Nat.div_add_mod o w.blockSize
    have hlast := Nat.div_add_mod (o + 4 * (n - 1)) w.blockSize
    have hlt := Nat.mod_lt (o + 4 * (n - 1)) hpositive
    have hmod4 : o % w.blockSize % 4 = 0 := by
      rw [hc, Nat.mod_mul_right_mod, ho]
    rw [← hblock] at hlast
    omega
  have himage : (ringBlock w (o / w.blockSize) + 1) * w.blockSize ≤ w.ringN * w.blockSize := by
    refine Nat.mul_le_mul_right _ (ringBlock_lt ?_)
    rw [Nat.div_lt_iff_lt_mul hpositive]
    omega
  have hblock4 : ringBlock w (o / w.blockSize) * w.blockSize = 4 * (ringBlock w (o / w.blockSize) * c) := by
    rw [hc]
    ring
  have hmod4 : o % w.blockSize % 4 = 0 := by
    rw [hc, Nat.mod_mul_right_mod, ho]
  rw [Nat.add_mul, Nat.one_mul] at himage
  unfold Placed
  rw [haddress, ringOffset]
  omega

/-- An aligned address leaves room for its own word. -/
theorem placed_one {a : Word} (h : a.toNat % 4 = 0) : Placed a 1 := by
  have hlt := a.isLt
  unfold Placed addressSpace
  omega

/-- R9: a cell's address is aligned because target and pitch are. -/
theorem WindowRecord.Legal.placed_aperture {w : WindowRecord} (h : w.Legal)
    (hvalid : w.valid = true) (hk : w.kind = .aperture) (row column : Nat) :
    Placed (cellAddress w row column) 1 := by
  obtain ⟨-, -, -, -, htarget⟩ := h.range hvalid
  rw [hk] at htarget
  have htarget4 : w.target.toNat % 4 = 0 := htarget
  obtain ⟨-, -, -, -, -, hpitch, -, -⟩ := h.aperture hvalid hk
  have hrow4 : row * w.pitch.toNat % 4 = 0 := by rw [Nat.mul_mod, hpitch, Nat.mul_zero, Nat.zero_mod]
  apply placed_one
  rw [cellAddress, BitVec.toNat_ofNat]
  omega

/-- R10: a word of bits. -/
theorem WindowRecord.Legal.placed_bitop {w : WindowRecord} (h : w.Legal) (hvalid : w.valid = true)
    (hk : w.kind = .bitop) (o : Nat) : Placed (aliasWord w o) 1 := by
  obtain ⟨-, -, -, -, htarget⟩ := h.range hvalid
  rw [hk] at htarget
  have htarget4 : w.target.toNat % 4 = 0 := htarget
  apply placed_one
  rw [aliasWord, BitVec.toNat_ofNat]
  omega

/-- R14, R15: every admitted request is placed. -/
theorem State.TablesLegal.placed {s : State} (h : s.TablesLegal) {r : Request} (hwf : r.wf = true)
    {physical : Word} (hplace : (s.decode r).place = some physical) : Placed physical r.length := by
  obtain ⟨haddress, hmin, -⟩ := Request.words_of_wf hwf
  rcases s.decode_cases r with ⟨why, hd⟩ | ⟨-, hspan, hd⟩ | ⟨w, hreaches, hd⟩
  · rw [hd] at hplace
    cases hplace
  · rw [hd] at hplace
    cases hplace
    exact ⟨haddress, ((s.defaultSpanOk_iff r).mp hspan).2⟩
  have hlegal := h.window w
  have hvalid := hreaches.valid
  obtain ⟨hbase, htop⟩ := hreaches.inside hlegal hwf
  obtain ⟨hbase16, -, -, -, -⟩ := hlegal.range hvalid
  have hoffset : offsetIn s.windows[w] r = r.address.toNat - s.windows[w].base.toNat := rfl
  rw [hd] at hplace
  cases hkind : s.windows[w].kind with
  | pass =>
    rw [State.kindVerdict_pass hkind] at hplace
    cases hplace
    exact hlegal.placed_pass hvalid hkind haddress hmin hbase htop
  | ring =>
    rw [State.kindVerdict_ring hkind] at hplace
    split_ifs at hplace with hcontained
    · cases hplace
      have hblock := (ringContained_iff _ r).mp hcontained
      unfold lastWord at hblock
      exact hlegal.placed_ring hvalid hkind (by omega) hmin (by omega) (by
        rw [hblock, hoffset]
        congr 1
        omega)
    · cases hplace
  | bitop =>
    rw [State.kindVerdict_bitop hkind] at hplace
    split_ifs at hplace with hlong
    · cases hplace
    · cases hplace
      rw [show r.length = 1 by omega]
      exact hlegal.placed_bitop hvalid hkind _
  | aperture =>
    rw [State.kindVerdict_aperture hkind] at hplace
    split_ifs at hplace with hlong
    · cases hplace
    · rcases s.apertureVerdict_cases w r with ⟨why, hv⟩ | hv | hv | ⟨a, -, hv⟩ <;>
        rw [hv] at hplace <;> cases hplace
      rw [show r.length = 1 by omega]
      exact hlegal.placed_aperture hvalid hkind _ _

/-- Every entry is placed as one of the old ones is. -/
theorem State.EntriesPlaced.of_continues {s t : State} (h : s.EntriesPlaced)
    (hmem : ∀ e ∈ t.queue.entries, ∃ e' ∈ s.queue.entries, e.Continues e') : t.EntriesPlaced := by
  intro e he
  obtain ⟨e', he', hsame⟩ := hmem e he
  rw [hsame.physical, hsame.length]
  exact h e' he'

/-- A placed entry joins the queue. -/
theorem State.EntriesPlaced.append {s t : State} (h : s.EntriesPlaced) {new : Entry}
    (hentries : t.queue.entries = s.queue.entries ++ [new]) (hnew : Placed new.physical new.length) :
    t.EntriesPlaced := by
  intro e he
  rw [hentries, List.mem_append, List.mem_singleton] at he
  rcases he with he | rfl
  · exact h e he
  · exact hnew

theorem State.EntriesPlaced.complete {s : State} (h : s.EntriesPlaced) (e : Entry) (o : UpOutcome)
    (data : List Word) (wrote : Bool) : (s.complete e o data wrote).EntriesPlaced :=
  h.of_continues fun x hx => ⟨x, (State.mem_complete_iff.mp hx).1, .refl x⟩

theorem State.Change.entriesPlaced {s t : State} (hchange : s.Change t) (htables : s.TablesLegal)
    (hqueue : s.QueueLegal) (h : s.EntriesPlaced) : t.EntriesPlaced := by
  cases hchange with
  | unseen hagrees =>
    rw [State.EntriesPlaced, hagrees.queue]
    exact h
  | pass _ => exact h.of_continues fun _ => (s.queueContinues_advance _).mem
  | @enters r rest physical kind hoffered _ _ _ hplace =>
    have hwf : r.wf = true := hqueue.offered r (by rw [hoffered]; exact List.mem_cons_self)
    exact h.append (congrArg AdmissionQueue.entries (State.enqueue_queue ..))
      (htables.placed hwf hplace)
  | admitMonitor kind haligned _ _ =>
    exact h.append (congrArg AdmissionQueue.entries (State.enqueue_queue ..))
      (placed_one ((aligned_iff _).mp haligned))
  | grant _ _ _ _ _ _ _ =>
    exact h.of_continues fun _ => (State.QueueContinues.of_change (Entry.continues_granted _) rfl).mem
  | fetchWrites _ f =>
    exact h.of_continues fun _ => (State.QueueContinues.of_change Entry.continues_writingBack rfl).mem
  | completeWaiting o _ _ _ => exact h.complete _ o [] false
  | @plainDone e n p _ _ o data wrote =>
    exact State.EntriesPlaced.complete (s := s.setTag n .free) h e o data wrote
  | @accessEnds e n p _ o data wrote =>
    exact State.EntriesPlaced.complete (s := (s.setTag n .free).releaseSlot e.id) h e o data wrote
  | @timesOut e n p _ o =>
    rw [State.EntriesPlaced, State.stallIfNoTag_queue]
    exact State.EntriesPlaced.complete (s := (s.setTag n .quarantined).releaseSlot e.id) h e o [] false
  | orphanTimesOut _ =>
    rw [State.EntriesPlaced, State.stallIfNoTag_queue]
    exact h
  | takeEvent _ _ =>
    rw [State.emptyIfEdge_eq]
    exact h
  | _ => exact h

end Sys2Proof.Machine
end

section
/-! SUPPORT. The laws of the occupancy flags and the monitor result record, of drain control and of the
timers under the small changes. -/

namespace Sys2Proof.Machine

open Sys2Proof

/-! ### Names and occupancy flags (R24, R25, R28, R40, R177) -/

theorem State.tagIsBusy_setTagBusy (n r : Fin 8) (g t : Fin 4) (busy : Bool) (s : State) :
    (s.setTagBusy n g busy).tagIsBusy r t = if r = n ∧ t = g then busy else s.tagIsBusy r t := by
  have hset : (s.setTagBusy n g busy).tagIsBusy r t =
      (s.upstream.tagBusy.set n (s.upstream.tagBusy[n].set g busy))[r][t] := rfl
  rw [hset, getElem_set_fin]
  by_cases hr : r = n
  · subst hr
    rw [if_pos rfl, getElem_set_fin]
    simp only [true_and]
    rfl
  · rw [if_neg hr, if_neg fun h => hr h.1]
    rfl

theorem State.tagIsBusy_congr {s t : State} (h : t.upstream.tagBusy = s.upstream.tagBusy)
    (r : Fin 8) (g : Fin 4) : t.tagIsBusy r g = s.tagIsBusy r g := by
  rw [State.tagIsBusy, h, State.tagIsBusy]

theorem Entry.Legal.continues {e' e : Entry} (h : e.Legal) (hsame : e'.Continues e) : e'.Legal where
  origin := by rw [hsame.requester, hsame.origin]; exact h.origin
  tag := by rw [hsame.requester, hsame.tag]; exact h.tag
  length := by rw [hsame.length]; exact h.length

/-- The same requests in the queue, with the same flags. -/
theorem State.QueueLegal.of_continues {s t : State} (h : s.QueueLegal) (hq : s.QueueContinues t)
    (hflags : t.upstream.tagBusy = s.upstream.tagBusy)
    (hmonitor : t.service.monitor.state = .busy ↔ s.service.monitor.state = .busy)
    (hoffered : ∀ r ∈ t.upstream.offered, r.wf = true) : t.QueueLegal where
  depth := hq.length.le.trans h.depth
  names := by rw [hq.names]; exact h.names
  entry e he := by
    obtain ⟨e', he', hsame⟩ := hq.mem he
    exact (h.entry e' he').continues hsame
  tagBusy r g := by
    rw [State.tagIsBusy_congr hflags, h.tagBusy]
    exact (hq.exists_iff fun requester tag => requester = .bus r ∧ tag = g).symm
  monitor := by
    rw [hmonitor, h.monitor]
    exact (hq.exists_iff fun requester _ => requester = .monitor).symm
  offered := hoffered

/-- The queue and its flags unchanged. -/
theorem State.QueueLegal.congr {s t : State} (h : s.QueueLegal) (hq : t.queue = s.queue)
    (hflags : t.upstream.tagBusy = s.upstream.tagBusy)
    (hoffered : t.upstream.offered = s.upstream.offered)
    (hmonitor : t.service.monitor = s.service.monitor) : t.QueueLegal :=
  h.of_continues (.of_eq (by rw [hq])) hflags (by rw [hmonitor]) (by rw [hoffered]; exact h.offered)

/-- Names tell the entries apart. -/
theorem State.QueueLegal.eq_of_id {s : State} (h : s.QueueLegal) {a b : Entry}
    (ha : a ∈ s.queue.entries) (hb : b ∈ s.queue.entries) (hid : a.id = b.id) : a = b :=
  List.inj_on_of_nodup_map h.names ha hb hid

theorem Entry.id_eq_iff {a b : Entry} : a.id = b.id ↔ a.requester = b.requester ∧ a.tag = b.tag := by
  simp [Entry.id]

/-- An entry of a new name joins the queue. -/
theorem nodup_append_id {entries : List Entry} {new : Entry} (h : (entries.map Entry.id).Nodup)
    (hnew : ∀ e ∈ entries, e.id ≠ new.id) : ((entries ++ [new]).map Entry.id).Nodup := by
  rw [List.map_append, List.map_singleton, ← List.concat_eq_append]
  refine h.concat fun hmem => ?_
  obtain ⟨e, he, hid⟩ := List.mem_map.mp hmem
  exact hnew e he hid

theorem State.originOf_ne_monitor (s : State) (r : Request) : s.originOf r ≠ .monitor := by
  unfold State.originOf
  split <;> nofun

/-- R24, R28: a request of a FREE pair is admitted. -/
theorem State.QueueLegal.enters {s : State} (h : s.QueueLegal) {r : Request} {rest : List Request}
    (hoffered : s.upstream.offered = r :: rest) (hroom : s.queue.entries.length < queueDepth)
    (hfree : s.tagIsBusy r.requester r.tag = false) (kind : EntryKind) (physical : Word) :
    ((s.channel rest).admitRequest r kind physical).QueueLegal := by
  have hwf : ∀ x ∈ r :: rest, x.wf = true := hoffered ▸ h.offered
  obtain ⟨-, hlength⟩ := Request.words_of_wf (hwf r List.mem_cons_self)
  have hentries : ((s.channel rest).admitRequest r kind physical).queue.entries = s.queue.entries ++ [_] :=
    congrArg AdmissionQueue.entries (State.enqueue_queue ..)
  have hflag (n : Fin 8) (g : Fin 4) :
      ((s.channel rest).admitRequest r kind physical).tagIsBusy n g =
        if n = r.requester ∧ g = r.tag then true else s.tagIsBusy n g :=
    State.tagIsBusy_setTagBusy ..
  have hnone : ∀ e ∈ s.queue.entries, ¬ (e.requester = .bus r.requester ∧ e.tag = r.tag) :=
    fun e he hpair => Bool.false_ne_true (hfree.symm.trans ((h.tagBusy _ _).mpr ⟨e, he, hpair⟩))
  exact {
    depth := by
      rw [hentries, List.length_append]
      exact hroom
    names := by
      rw [hentries]
      exact nodup_append_id h.names fun e he hid => hnone e he (Entry.id_eq_iff.mp hid)
    entry := fun e he => by
      rw [hentries, List.mem_append, List.mem_singleton] at he
      rcases he with he | rfl
      · exact h.entry e he
      · exact ⟨⟨nofun, fun ho => absurd ho ((s.channel rest).originOf_ne_monitor r)⟩, nofun, hlength⟩
    tagBusy := fun n g => by
      simp only [hflag, hentries, List.mem_append, List.mem_singleton, or_and_right, exists_or,
        exists_eq_left, Requester.bus.injEq]
      split_ifs with hpair
      · simp [hpair.1, hpair.2]
      · rw [h.tagBusy]
        refine ⟨.inl, fun hor => hor.resolve_right fun hnew => hpair ⟨hnew.1.symm, hnew.2.symm⟩⟩
    monitor := by
      have hmonitor : ((s.channel rest).admitRequest r kind physical).service = s.service := rfl
      simp only [hmonitor, hentries, List.mem_append, List.mem_singleton, or_and_right, exists_or,
        exists_eq_left, reduceCtorEq, or_false]
      exact h.monitor
    offered := fun x hx => hwf x (List.mem_cons_of_mem _ hx) }

/-- R40, R177: a monitor command is accepted while the record is not BUSY. -/
theorem State.QueueLegal.admitMonitor {s : State} (h : s.QueueLegal)
    (hidle : s.service.monitor.state ≠ .busy) (hroom : s.queue.entries.length < queueDepth)
    (address : Word) (kind : EntryKind) :
    ((s.enqueue .monitor 0 address .monitor kind address 1 s.settings.monitorClass).setMonitor
      { state := .busy, outcome := none, data := 0 }).QueueLegal := by
  have hnone : ∀ e ∈ s.queue.entries, e.requester ≠ .monitor :=
    fun e he hmonitor => hidle (h.monitor.mpr ⟨e, he, hmonitor⟩)
  exact {
    depth := by
      rw [State.setMonitor_queue, State.enqueue_queue, List.length_append]
      exact hroom
    names := by
      rw [State.setMonitor_queue, State.enqueue_queue]
      exact nodup_append_id h.names fun e he hid => hnone e he (Entry.id_eq_iff.mp hid).1
    entry := fun e he => by
      rw [State.setMonitor_queue, State.enqueue_queue, List.mem_append, List.mem_singleton] at he
      rcases he with he | rfl
      · exact h.entry e he
      · exact ⟨⟨fun _ => rfl, fun _ => rfl⟩, fun _ => rfl, Nat.le_refl 1, (by decide : 1 ≤ 8)⟩
    tagBusy := fun n g => by
      refine (h.tagBusy n g).trans ?_
      simp only [State.setMonitor_queue, State.enqueue_queue, List.mem_append, List.mem_singleton,
        or_and_right, exists_or, exists_eq_left, reduceCtorEq, false_and, or_false]
    monitor := by
      simp only [State.setMonitor_queue, State.enqueue_queue, List.mem_append, List.mem_singleton,
        or_and_right, exists_or, exists_eq_left, or_true, iff_true]
      rfl
    offered := h.offered }

theorem State.tagIsBusy_complete_bus {e : Entry} {n : Fin 8} (he : e.requester = .bus n)
    (o : UpOutcome) (data : List Word) (wrote : Bool) (s : State) (r : Fin 8) (g : Fin 4) :
    (s.complete e o data wrote).tagIsBusy r g =
      if r = n ∧ g = e.tag then false else s.tagIsBusy r g := by
  have hflags : (s.complete e o data wrote).upstream.tagBusy =
      (s.setTagBusy n e.tag false).upstream.tagBusy := by
    rw [State.complete_upstream, State.deliver_bus he]
    rfl
  rw [State.tagIsBusy_congr hflags, State.tagIsBusy_setTagBusy]

theorem State.tagIsBusy_complete_monitor {e : Entry} (he : e.requester = .monitor) (o : UpOutcome)
    (data : List Word) (wrote : Bool) (s : State) (r : Fin 8) (g : Fin 4) :
    (s.complete e o data wrote).tagIsBusy r g = s.tagIsBusy r g := by
  refine State.tagIsBusy_congr ?_ r g
  rw [State.complete_upstream, State.deliver_monitor he]
  rfl

/-- R38: a completed entry leaves, and its pair or the monitor record with it. -/
theorem State.QueueLegal.complete {s : State} (h : s.QueueLegal) {e : Entry}
    (hmonitor : e.requester = .monitor → e ∈ s.queue.entries) (o : UpOutcome) (data : List Word)
    (wrote : Bool) : (s.complete e o data wrote).QueueLegal := by
  have hentries := s.complete_entries e o data wrote
  have hservice := State.complete_service e o data wrote s
  exact {
    depth := by
      rw [hentries]
      exact (List.length_filter_le _ _).trans h.depth
    names := by
      rw [hentries]
      exact h.names.sublist (List.filter_sublist.map _)
    entry := fun x hx => h.entry x (State.mem_complete_iff.mp hx).1
    tagBusy := fun r g => by
      simp only [State.mem_complete_iff]
      cases hrequester : e.requester with
      | bus n =>
        rw [State.tagIsBusy_complete_bus hrequester]
        split_ifs with hpair
        · obtain ⟨rfl, rfl⟩ := hpair
          refine iff_of_false not_false ?_
          rintro ⟨x, ⟨-, hid⟩, hx, htag⟩
          exact hid (Entry.id_eq_iff.mpr ⟨hx.trans hrequester.symm, htag⟩)
        · rw [h.tagBusy]
          refine exists_congr fun x => ⟨fun ⟨hx, hr, hg⟩ => ⟨⟨hx, fun hid => hpair ?_⟩, hr, hg⟩,
            fun ⟨⟨hx, _⟩, hp⟩ => ⟨hx, hp⟩⟩
          obtain ⟨hr', hg'⟩ := Entry.id_eq_iff.mp hid
          exact ⟨Requester.bus.inj (hr.symm.trans (hr'.trans hrequester)), hg.symm.trans hg'⟩
      | monitor =>
        rw [State.tagIsBusy_complete_monitor hrequester, h.tagBusy]
        refine exists_congr fun x => ⟨fun ⟨hx, hr, hg⟩ => ⟨⟨hx, fun hid => ?_⟩, hr, hg⟩,
          fun ⟨⟨hx, _⟩, hp⟩ => ⟨hx, hp⟩⟩
        exact nomatch hr.symm.trans ((Entry.id_eq_iff.mp hid).1.trans hrequester)
    monitor := by
      simp only [State.mem_complete_iff]
      cases hrequester : e.requester with
      | bus n =>
        rw [hservice, State.deliver_bus hrequester]
        refine h.monitor.trans (exists_congr fun x =>
          ⟨fun ⟨hx, hr⟩ => ⟨⟨hx, fun hid => ?_⟩, hr⟩, fun ⟨⟨hx, _⟩, hr⟩ => ⟨hx, hr⟩⟩)
        exact nomatch hr.symm.trans ((Entry.id_eq_iff.mp hid).1.trans hrequester)
      | monitor =>
        rw [hservice, State.deliver_monitor hrequester]
        refine iff_of_false nofun ?_
        rintro ⟨x, ⟨hx, hid⟩, hr⟩
        have he := hmonitor hrequester
        exact hid (Entry.id_eq_iff.mpr ⟨hr.trans hrequester.symm,
          ((h.entry x hx).tag hr).trans ((h.entry e he).tag hrequester).symm⟩)
    offered := by
      rw [(s.complete_frame e o data wrote).offered]
      exact h.offered }

theorem State.advance_upstream (k : Nat) (s : State) : (s.advance k).upstream = s.upstream := by
  unfold State.advance
  split <;> rfl

theorem State.advance_service (k : Nat) (s : State) : (s.advance k).service = s.service := by
  unfold State.advance
  split <;> rfl

theorem State.stallIfNoTag_upstream (s : State) : s.stallIfNoTag.upstream = s.upstream := by
  rw [State.stallIfNoTag_eq]

theorem State.stallIfNoTag_service (s : State) : s.stallIfNoTag.service = s.service := by
  rw [State.stallIfNoTag_eq]

theorem State.QueueLegal.stallIfNoTag {s : State} (h : s.QueueLegal) : s.stallIfNoTag.QueueLegal :=
  h.congr s.stallIfNoTag_queue (by rw [State.stallIfNoTag_upstream])
    (by rw [State.stallIfNoTag_upstream]) (by rw [State.stallIfNoTag_service])

theorem State.Change.queueLegal {s t : State} (hchange : s.Change t) (h : s.QueueLegal) :
    t.QueueLegal := by
  cases hchange with
  | unseen hagrees =>
    exact h.congr hagrees.queue hagrees.tagBusy hagrees.offered hagrees.monitor
  | offer hwf =>
    refine h.of_continues (.of_eq rfl) rfl Iff.rfl fun x hx => ?_
    rcases List.mem_append.mp hx with hx | hx
    · exact h.offered x hx
    · rw [List.mem_singleton.mp hx]
      exact hwf
  | take hoffered =>
    refine h.of_continues (.of_eq rfl) rfl Iff.rfl fun x hx => h.offered x ?_
    rw [hoffered]
    exact List.mem_cons_of_mem _ hx
  | pass _ =>
    exact h.of_continues (s.queueContinues_advance _) (by rw [State.advance_upstream])
      (by rw [State.advance_service]) (by rw [State.advance_upstream]; exact h.offered)
  | enters kind hoffered hroom hfree _ _ => exact h.enters hoffered hroom hfree kind _
  | admitMonitor kind _ hidle hroom => exact h.admitMonitor hidle hroom _ kind
  | collect hdone =>
    refine h.of_continues (.of_eq rfl) rfl ?_ h.offered
    rw [hdone]
    exact iff_of_false nofun nofun
  | completeWaiting o _ hmonitor _ => exact h.complete hmonitor o [] false
  | grant _ _ _ _ _ _ _ =>
    exact h.of_continues (.of_change (Entry.continues_granted _) rfl) rfl Iff.rfl h.offered
  | fetchWrites _ f =>
    exact h.of_continues (.of_change Entry.continues_writingBack rfl) rfl Iff.rfl h.offered
  | @plainDone e n p haccess _ o data wrote =>
    have hfreed : (s.setTag n .free).QueueLegal := h.congr rfl rfl rfl rfl
    exact hfreed.complete (fun _ => haccess.mem) o data wrote
  | @accessEnds e n p haccess o data wrote =>
    have hfreed : ((s.setTag n .free).releaseSlot e.id).QueueLegal := h.congr rfl rfl rfl rfl
    exact hfreed.complete (fun _ => haccess.mem) o data wrote
  | @timesOut e n p haccess o =>
    have hfreed : ((s.setTag n .quarantined).releaseSlot e.id).QueueLegal := h.congr rfl rfl rfl rfl
    exact (hfreed.complete (fun _ => haccess.mem) o [] false).stallIfNoTag
  | @orphanTimesOut n _ =>
    have htag : (s.setTag n .quarantined).QueueLegal := h.congr rfl rfl rfl rfl
    exact htag.stallIfNoTag
  | takeEvent _ _ =>
    rw [State.emptyIfEdge_eq]
    exact h.congr rfl rfl rfl rfl
  | _ => exact h.congr rfl rfl rfl rfl

/-- A queue without entries, with every pair FREE and no BUSY record. -/
theorem State.QueueLegal.of_empty {s : State} (hq : s.queue.entries = [])
    (hflags : ∀ r g, s.tagIsBusy r g = false) (hmonitor : s.service.monitor.state ≠ .busy)
    (hoffered : ∀ r ∈ s.upstream.offered, r.wf = true) : s.QueueLegal where
  depth := by rw [hq]; exact Nat.zero_le _
  names := by rw [hq]; exact List.nodup_nil
  entry := by rw [hq]; nofun
  tagBusy r g := by
    rw [hflags, hq]
    exact iff_of_false Bool.false_ne_true nofun
  monitor := by
    rw [hq]
    exact iff_of_false hmonitor nofun
  offered := hoffered

theorem State.asserted_tagIsBusy (s : State) (r : Fin 8) (g : Fin 4) :
    s.asserted.tagIsBusy r g = false := by
  simp [State.tagIsBusy, State.asserted, State.reset]

theorem State.QueueLegal.asserted {s : State} (h : s.QueueLegal) : s.asserted.QueueLegal :=
  .of_empty rfl s.asserted_tagIsBusy nofun h.offered

/-! ### Drain control (R27, R150, R151, R153) -/

theorem State.DrainLegal.of_continues {s t : State} (h : s.DrainLegal) (hq : s.QueueContinues t)
    (hstate : t.drain.state = s.drain.state) (hmask : t.drain.mask = s.drain.mask) : t.DrainLegal where
  mask := by rw [hstate, hmask]; exact h.mask
  waits := by rw [hstate, hmask, hq.maskedEntry]; exact h.waits
  done := by rw [hstate, hmask, hq.maskedEntry]; exact h.done

theorem State.DrainLegal.congr {s t : State} (h : s.DrainLegal) (hq : t.queue = s.queue)
    (hd : t.drain = s.drain) : t.DrainLegal :=
  h.of_continues (.of_eq (by rw [hq])) (by rw [hd]) (by rw [hd])

/-- R27: while drain control refuses, no masked entry joins the queue. -/
theorem State.DrainLegal.append {s t : State} (h : s.DrainLegal) {new : Entry}
    (hentries : t.queue.entries = s.queue.entries ++ [new]) (hd : t.drain = s.drain)
    (hnew : s.drain.state = .none ∨ inMask s.drain.mask new.requester = false) : t.DrainLegal where
  mask := by rw [hd]; exact h.mask
  waits hstate := by
    rw [hd] at hstate ⊢
    obtain ⟨e, he, hmasked⟩ := State.maskedEntry_eq_true_iff.mp (h.waits hstate)
    exact State.maskedEntry_eq_true_iff.mpr
      ⟨e, by rw [hentries]; exact List.mem_append_left _ he, hmasked⟩
  done hstate := by
    rw [hd] at hstate ⊢
    refine State.maskedEntry_eq_false_iff.mpr fun e he => ?_
    rw [hentries, List.mem_append, List.mem_singleton] at he
    rcases he with he | rfl
    · exact State.maskedEntry_eq_false_iff.mp (h.done hstate) e he
    · exact hnew.resolve_left fun hnone => nomatch hstate.symm.trans hnone

/-- R153: the last masked entry takes DRAINING and STUCK to DRAINED. -/
theorem State.DrainLegal.complete {s : State} (h : s.DrainLegal) (e : Entry) (o : UpOutcome)
    (data : List Word) (wrote : Bool) : (s.complete e o data wrote).DrainLegal := by
  have hmasked (mask : Byte) :
      (s.complete e o data wrote).maskedEntry mask = (s.removeEntry e.id).maskedEntry mask := by
    rw [State.maskedEntry, State.maskedEntry, State.complete_entries, State.removeEntry_queue_entries]
  by_cases hlast : (s.removeEntry e.id).LastMasked e.requester
  · have hdrain := State.complete_drain_last o data wrote hlast
    obtain ⟨hstate, -, hnone⟩ := hlast
    have hmask : s.drain.mask ≠ 0 := fun hzero => by
      rcases hstate with hs | hs <;> exact nomatch hs.symm.trans (h.mask.mpr hzero)
    exact ⟨by rw [hdrain]; exact iff_of_false nofun hmask, by rw [hdrain]; nofun,
      fun _ => by rw [hdrain, hmasked]; exact hnone⟩
  · have hdrain := State.complete_drain_other o data wrote hlast
    refine ⟨by rw [hdrain]; exact h.mask, fun hstate => ?_, fun hstate => ?_⟩
    · rw [hdrain] at hstate ⊢
      rw [hmasked]
      by_contra hnone
      obtain ⟨x, hx, hin⟩ := State.maskedEntry_eq_true_iff.mp (h.waits hstate)
      have hnone' := State.maskedEntry_eq_false_iff.mp (Bool.eq_false_iff.mpr hnone)
      refine hlast ⟨hstate, ?_, Bool.eq_false_iff.mpr hnone⟩
      by_cases hid : x.id = e.id
      · rwa [← (Entry.id_eq_iff.mp hid).1]
      · exact nomatch hin.symm.trans (hnone' x (List.mem_filter.mpr ⟨hx, decide_eq_true hid⟩))
    · rw [hdrain] at hstate ⊢
      exact State.maskedEntry_eq_false_iff.mpr fun x hx =>
        State.maskedEntry_eq_false_iff.mp (h.done hstate) x (State.mem_complete_iff.mp hx).1

theorem State.advance_drainMask (k : Nat) (s : State) : (s.advance k).drain.mask = s.drain.mask := by
  unfold State.advance
  split <;> rfl

theorem State.stallIfNoTag_drain (s : State) : s.stallIfNoTag.drain = s.drain := by
  rw [State.stallIfNoTag_eq]

theorem State.Change.drainLegal {s t : State} (hchange : s.Change t) (h : s.DrainLegal) :
    t.DrainLegal := by
  cases hchange with
  | unseen hagrees => exact h.congr hagrees.queue hagrees.drain
  | pass _ =>
    exact h.of_continues (s.queueContinues_advance _) (s.advance_drainState _) (s.advance_drainMask _)
  | enters kind _ _ _ hdrain _ =>
    exact h.append (congrArg AdmissionQueue.entries (State.enqueue_queue ..)) rfl hdrain
  | admitMonitor kind _ _ _ =>
    exact h.append (congrArg AdmissionQueue.entries (State.enqueue_queue ..)) rfl (.inr rfl)
  | grant _ _ _ _ _ _ _ =>
    exact h.of_continues (.of_change (Entry.continues_granted _) rfl) rfl rfl
  | fetchWrites _ f => exact h.of_continues (.of_change Entry.continues_writingBack rfl) rfl rfl
  | startDrain hstate hmask hwaits => exact ⟨iff_of_false nofun hmask, fun _ => hwaits, nofun⟩
  | drainAtOnce hstate hmask hdone =>
    exact ⟨iff_of_false nofun hmask, fun hs => (by rcases hs with hs | hs <;> cases hs), fun _ => hdone⟩
  | resume =>
    exact ⟨iff_of_true rfl rfl, fun hs => (by rcases hs with hs | hs <;> cases hs), nofun⟩
  | stick hstate =>
    have hmask : s.drain.mask ≠ 0 := fun hzero => nomatch hstate.symm.trans (h.mask.mpr hzero)
    exact ⟨iff_of_false nofun hmask, fun _ => h.waits (.inl hstate), nofun⟩
  | completeWaiting o _ _ _ => exact h.complete _ o [] false
  | @plainDone e n p _ _ o data wrote =>
    have hfreed : (s.setTag n .free).DrainLegal := h.congr rfl rfl
    exact hfreed.complete e o data wrote
  | @accessEnds e n p _ o data wrote =>
    have hfreed : ((s.setTag n .free).releaseSlot e.id).DrainLegal := h.congr rfl rfl
    exact hfreed.complete e o data wrote
  | @timesOut e n p _ o =>
    have hfreed : ((s.setTag n .quarantined).releaseSlot e.id).DrainLegal := h.congr rfl rfl
    exact (hfreed.complete e o [] false).congr (State.stallIfNoTag_queue _) (State.stallIfNoTag_drain _)
  | orphanTimesOut _ => exact h.congr (State.stallIfNoTag_queue _) (State.stallIfNoTag_drain _)
  | takeEvent _ _ =>
    rw [State.emptyIfEdge_eq]
    exact h.congr rfl rfl
  | _ => exact h.congr rfl rfl

theorem State.asserted_drainLegal (s : State) : s.asserted.DrainLegal :=
  ⟨iff_of_true rfl rfl, fun hs => (by rcases hs with hs | hs <;> cases hs), nofun⟩

/-! ### Timers (log 2) -/

/-- Every running timer of `t` ran in `s` with the same limit, or stands at 0. -/
structure State.TimersFrom (s t : State) : Prop where
  interval : (t.classTable.timer = s.classTable.timer ∧ t.classTable.length = s.classTable.length) ∨
    t.classTable.timer = 0
  hold : ∀ e ∈ t.queue.entries, e.state = .waiting →
    (∃ e' ∈ s.queue.entries, e'.state = .waiting ∧ e.holdLimit = e'.holdLimit ∧
      e.holdTimer = e'.holdTimer) ∨ e.holdTimer = 0
  response : ∀ (n : Fin 8) (o : EntryId) (p : Phase) (i : Issued),
    t.mem.tags[n] = .busy o p (some i) →
      (∃ o' p', s.mem.tags[n] = .busy o' p' (some i)) ∨ i.timer = 0
  recovery : t.mem.port = .recovering →
    (s.mem.port = .recovering ∧ t.mem.recoveryTimer = s.mem.recoveryTimer) ∨ t.mem.recoveryTimer = 0
  drain : t.drain.state = .draining →
    (s.drain.state = .draining ∧ t.drain.timer = s.drain.timer ∧ t.drain.limit = s.drain.limit) ∨
      t.drain.timer = 0

theorem State.TimersLegal.of_from {s t : State} (h : s.TimersLegal) (hfrom : s.TimersFrom t) :
    t.TimersLegal where
  interval := by
    rcases hfrom.interval with ⟨htimer, hlength⟩ | hzero
    · rw [htimer, hlength]
      exact h.interval
    · omega
  hold e he hwaiting hlimit := by
    rcases hfrom.hold e he hwaiting with ⟨e', he', hwaiting', hsame, htimer⟩ | hzero
    · rw [hsame] at hlimit ⊢
      rw [htimer]
      exact h.hold e' he' hwaiting' hlimit
    · omega
  response n o p i htag := by
    rcases hfrom.response n o p i htag with ⟨o', p', htag'⟩ | hzero
    · exact h.response n o' p' i htag'
    · omega
  recovery hport := by
    rcases hfrom.recovery hport with ⟨hport', htimer⟩ | hzero
    · rw [htimer]
      exact h.recovery hport'
    · omega
  drain hstate := by
    rcases hfrom.drain hstate with ⟨hstate', htimer, hlimit⟩ | hzero
    · rw [htimer, hlimit]
      exact h.drain hstate'
    · omega

theorem State.hold_of_queue_eq {s t : State} (h : t.queue = s.queue) :
    ∀ e ∈ t.queue.entries, e.state = .waiting →
      (∃ e' ∈ s.queue.entries, e'.state = .waiting ∧ e.holdLimit = e'.holdLimit ∧
        e.holdTimer = e'.holdTimer) ∨ e.holdTimer = 0 := by
  intro e he hwaiting
  rw [h] at he
  exact .inl ⟨e, he, hwaiting, rfl, rfl⟩

/-- The timers unchanged. -/
theorem State.TimersFrom.of_eq {s t : State} (hclass : t.classTable = s.classTable)
    (hq : t.queue = s.queue) (htags : t.mem.tags = s.mem.tags) (hport : t.mem.port = s.mem.port)
    (hrecovery : t.mem.recoveryTimer = s.mem.recoveryTimer) (hdrain : t.drain = s.drain) :
    s.TimersFrom t where
  interval := .inl (by rw [hclass]; exact ⟨rfl, rfl⟩)
  hold := State.hold_of_queue_eq hq
  response n o p i htag := .inl ⟨o, p, by rwa [htags] at htag⟩
  recovery h := .inl ⟨by rwa [hport] at h, hrecovery⟩
  drain h := .inl (by rw [hdrain] at h ⊢; exact ⟨h, rfl, rfl⟩)

/-- An entry joins the queue with its hold timer at 0. -/
theorem State.TimersFrom.append {s t : State} {new : Entry} (hnew : new.holdTimer = 0)
    (hentries : t.queue.entries = s.queue.entries ++ [new]) (hclass : t.classTable = s.classTable)
    (hmem : t.mem = s.mem) (hdrain : t.drain = s.drain) : s.TimersFrom t where
  interval := .inl (by rw [hclass]; exact ⟨rfl, rfl⟩)
  hold e he hwaiting := by
    rw [hentries, List.mem_append, List.mem_singleton] at he
    rcases he with he | rfl
    · exact .inl ⟨e, he, hwaiting, rfl, rfl⟩
    · exact .inr hnew
  response n o p i htag := .inl ⟨o, p, by rwa [hmem] at htag⟩
  recovery h := .inl (by rw [hmem] at h ⊢; exact ⟨h, rfl⟩)
  drain h := .inl (by rw [hdrain] at h ⊢; exact ⟨h, rfl, rfl⟩)

/-- A completion stops a hold timer at most, and a drain timer. -/
theorem State.timersFrom_complete (e : Entry) (o : UpOutcome) (data : List Word) (wrote : Bool)
    (s : State) : s.TimersFrom (s.complete e o data wrote) where
  interval := .inl (by rw [(s.complete_frame e o data wrote).classTable]; exact ⟨rfl, rfl⟩)
  hold x hx hwaiting := .inl ⟨x, (State.mem_complete_iff.mp hx).1, hwaiting, rfl, rfl⟩
  response n o' p i htag := by
    rw [(s.complete_frame e o data wrote).mem] at htag
    exact .inl ⟨o', p, htag⟩
  recovery hport := by
    rw [(s.complete_frame e o data wrote).mem] at hport ⊢
    exact .inl ⟨hport, rfl⟩
  drain hstate := by
    by_cases hlast : (s.removeEntry e.id).LastMasked e.requester
    · rw [State.complete_drain_last o data wrote hlast] at hstate
      cases hstate
    · rw [State.complete_drain_other o data wrote hlast] at hstate ⊢
      exact .inl ⟨hstate, rfl, rfl⟩

/-- A tag takes a record whose response timer stands at 0 or does not run. -/
theorem State.response_of_set {s : State} {n : Fin 8} {r : TagRecord}
    (hr : ∀ o p i, r = .busy o p (some i) → i.timer = 0) {tags : Vector TagRecord 8}
    (htags : tags = s.mem.tags.set n r) (m : Fin 8) (o : EntryId) (p : Phase) (i : Issued)
    (htag : tags[m] = .busy o p (some i)) :
    (∃ o' p', s.mem.tags[m] = .busy o' p' (some i)) ∨ i.timer = 0 := by
  rw [htags, getElem_set_fin] at htag
  split_ifs at htag
  · exact .inr (hr o p i htag)
  · exact .inl ⟨o, p, htag⟩

theorem State.timersFrom_setTag {n : Fin 8} {r : TagRecord}
    (hr : ∀ o p i, r = .busy o p (some i) → i.timer = 0) (s : State) :
    s.TimersFrom (s.setTag n r) where
  interval := .inl ⟨rfl, rfl⟩
  hold := State.hold_of_queue_eq rfl
  response := State.response_of_set hr rfl
  recovery h := .inl ⟨h, rfl⟩
  drain h := .inl ⟨h, rfl, rfl⟩

/-- A STALLED port has no recovery to time. -/
theorem State.timersFrom_stallIfNoTag (s : State) : s.TimersFrom s.stallIfNoTag := by
  have hport : s.stallIfNoTag.mem.port = .recovering → s.mem.port = .recovering := by
    unfold State.stallIfNoTag
    split
    · nofun
    · exact id
  rw [State.stallIfNoTag_eq]
  exact {
    interval := .inl ⟨rfl, rfl⟩
    hold := State.hold_of_queue_eq rfl
    response := fun n o p i htag => .inl ⟨o, p, htag⟩
    recovery := fun h => .inl ⟨hport h, rfl⟩
    drain := fun h => .inl ⟨h, rfl, rfl⟩ }

/-- An entry that is not WAITING any more has no hold timer to run. -/
theorem State.hold_of_change {s : State} {name : EntryId} {f : Entry → Entry}
    (hf : ∀ e, (f e).state ≠ .waiting) {entries : List Entry}
    (hentries : entries = changeEntry name f s.queue.entries) :
    ∀ e ∈ entries, e.state = .waiting →
      (∃ e' ∈ s.queue.entries, e'.state = .waiting ∧ e.holdLimit = e'.holdLimit ∧
        e.holdTimer = e'.holdTimer) ∨ e.holdTimer = 0 := by
  intro e he hwaiting
  rw [hentries] at he
  obtain ⟨x, hx, rfl⟩ := List.mem_map.mp he
  split_ifs at hwaiting ⊢
  · exact absurd hwaiting (hf x)
  · exact .inl ⟨x, hx, hwaiting, rfl, rfl⟩

theorem EntryKind.grantState_ne_waiting (k : EntryKind) : k.grantState ≠ .waiting := by
  cases k <;> nofun

/-- Time that passes before the next event takes no timer past its limit. -/
theorem State.TimersLegal.advance {s : State} (h : s.TimersLegal) {k : Nat}
    (hnext : s.nextWithin k = true) : (s.advance k).TimersLegal := by
  by_cases hreset : s.resetAsserted = true
  · rw [State.advance_asserted hreset]
    exact h
  have hreleased := Bool.eq_false_iff.mpr hreset
  have hleft (j : Nat) (hj : j ∈ s.timesLeft) : k ≤ j := (s.nextWithin_iff k).mp hnext j hj
  have hadvance := State.advance_of_released hreleased k
  exact {
    interval := by
      have hlimit := h.interval
      have hj := hleft _ (State.mem_timesLeft_iff.mpr
        (.inr (.inr (.inl (State.intervalLeft_eq_some_iff.mpr ⟨hreleased, rfl⟩)))))
      rw [hadvance]
      dsimp only
      omega
    hold := fun e he hwaiting hne => by
      rw [State.advance_entries hreleased] at he
      obtain ⟨x, hx, rfl⟩ := List.mem_map.mp he
      have hlimit := h.hold x hx hwaiting hne
      have hj := hleft _ (State.mem_timesLeft_iff.mpr
        (.inl ⟨x, hx, Entry.holdLeft_eq_some_iff.mpr ⟨hwaiting, hne, rfl⟩⟩))
      dsimp only [Entry.aged]
      omega
    response := fun n o p i htag => by
      rw [State.advance_tag hreleased] at htag
      obtain ⟨j, htag', hij⟩ := TagRecord.advance_eq_busy htag
      obtain ⟨x, rfl, rfl⟩ := Option.map_eq_some_iff.mp hij.symm
      have hlimit := h.response n o p x htag'
      have hj := hleft _ (State.mem_timesLeft_iff.mpr
        (.inr (.inl ⟨n, TagRecord.responseLeft_eq_some_iff.mpr ⟨o, p, x, htag', rfl⟩⟩)))
      dsimp only
      omega
    recovery := fun hport => by
      rw [State.advance_port] at hport
      have hlimit := h.recovery hport
      have hj := hleft _ (State.mem_timesLeft_iff.mpr
        (.inr (.inr (.inr (.inl (State.recoveryLeft_eq_some_iff.mpr ⟨hport, rfl⟩))))))
      rw [hadvance]
      dsimp only
      rw [if_pos hport]
      omega
    drain := fun hstate => by
      rw [State.advance_drainState] at hstate
      have hlimit := h.drain hstate
      have hj := hleft _ (State.mem_timesLeft_iff.mpr
        (.inr (.inr (.inr (.inr (State.drainLeft_eq_some_iff.mpr ⟨hstate, rfl⟩))))))
      rw [hadvance]
      dsimp only
      rw [if_pos hstate]
      omega }

theorem State.issuedNow_timer {s : State} {o o' : EntryId} {p p' : Phase} {i : Issued}
    (h : TagRecord.busy o p s.issuedNow = .busy o' p' (some i)) : i.timer = 0 := by
  cases h
  rfl

theorem State.Change.timersLegal {s t : State} (hchange : s.Change t) (h : s.TimersLegal) :
    t.TimersLegal := by
  cases hchange with
  | unseen hagrees =>
    exact h.of_from (.of_eq hagrees.classTable hagrees.queue hagrees.tags hagrees.port
      hagrees.recoveryTimer hagrees.drain)
  | pass hnext => exact h.advance hnext
  | enters kind _ _ _ _ _ =>
    exact h.of_from (.append (new := _) rfl
      (congrArg AdmissionQueue.entries (State.enqueue_queue ..)) rfl rfl rfl)
  | admitMonitor kind _ _ _ =>
    exact h.of_from (.append (new := _) rfl
      (congrArg AdmissionQueue.entries (State.enqueue_queue ..)) rfl rfl rfl)
  | completeWaiting o _ _ _ => exact h.of_from (s.timersFrom_complete _ o [] false)
  | grant _ _ _ _ _ _ _ =>
    exact h.of_from
      { interval := .inl ⟨rfl, rfl⟩
        hold := State.hold_of_change (fun e => e.kind.grantState_ne_waiting) rfl
        response := State.response_of_set (fun _ _ _ => State.issuedNow_timer) rfl
        recovery := fun hport => .inl ⟨hport, rfl⟩
        drain := fun hstate => .inl ⟨hstate, rfl, rfl⟩ }
  | issueWriteBack _ _ =>
    exact h.of_from
      { interval := .inl ⟨rfl, rfl⟩
        hold := State.hold_of_queue_eq rfl
        response := State.response_of_set (fun _ _ _ => State.issuedNow_timer) rfl
        recovery := fun hport => .inl ⟨hport, rfl⟩
        drain := fun hstate => .inl ⟨hstate, rfl, rfl⟩ }
  | freeLate _ => exact h.of_from (s.timersFrom_setTag (r := .free) nofun)
  | freeOrphan _ => exact h.of_from (s.timersFrom_setTag (r := .free) nofun)
  | @plainDone e n p _ _ o data wrote =>
    have hfreed : (s.setTag n .free).TimersLegal := h.of_from (s.timersFrom_setTag (r := .free) nofun)
    exact hfreed.of_from (State.timersFrom_complete e o data wrote _)
  | @accessEnds e n p _ o data wrote =>
    have hfreed : (s.setTag n .free).TimersLegal := h.of_from (s.timersFrom_setTag (r := .free) nofun)
    have hslot : ((s.setTag n .free).releaseSlot e.id).TimersLegal :=
      hfreed.of_from (.of_eq rfl rfl rfl rfl rfl rfl)
    exact hslot.of_from (State.timersFrom_complete e o data wrote _)
  | @fetchWrites e n _ f =>
    exact h.of_from
      { interval := .inl ⟨rfl, rfl⟩
        hold := State.hold_of_change (f := Entry.writingBack) (fun e => nofun) rfl
        response := State.response_of_set (r := .busy e.id .writeBack none)
          (fun _ _ _ hissued => by cases hissued) rfl
        recovery := fun hport => .inl ⟨hport, rfl⟩
        drain := fun hstate => .inl ⟨hstate, rfl, rfl⟩ }
  | @timesOut e n p _ o =>
    have hfreed : (s.setTag n .quarantined).TimersLegal :=
      h.of_from (s.timersFrom_setTag (r := .quarantined) nofun)
    have hslot : ((s.setTag n .quarantined).releaseSlot e.id).TimersLegal :=
      hfreed.of_from (.of_eq rfl rfl rfl rfl rfl rfl)
    exact (hslot.of_from (State.timersFrom_complete e o [] false _)).of_from
      (State.timersFrom_stallIfNoTag _)
  | orphanTimesOut _ =>
    exact (h.of_from (s.timersFrom_setTag (r := .quarantined) nofun)).of_from
      (State.timersFrom_stallIfNoTag _)
  | recover _ =>
    exact ⟨h.interval, h.hold, fun n o p i htag => (by simp at htag), nofun, h.drain⟩
  | clearFault _ => exact ⟨h.interval, h.hold, h.response, fun _ => Nat.zero_le _, h.drain⟩
  | endInterval => exact ⟨Nat.zero_le _, h.hold, h.response, h.recovery, h.drain⟩
  | startDrain _ _ _ => exact ⟨h.interval, h.hold, h.response, h.recovery, fun _ => Nat.zero_le _⟩
  | drainAtOnce _ _ _ => exact ⟨h.interval, h.hold, h.response, h.recovery, nofun⟩
  | resume => exact ⟨h.interval, h.hold, h.response, h.recovery, nofun⟩
  | stick _ => exact ⟨h.interval, h.hold, h.response, h.recovery, nofun⟩
  | takeEvent _ _ =>
    rw [State.emptyIfEdge_eq]
    exact ⟨h.interval, h.hold, h.response, h.recovery, h.drain⟩
  | _ => exact ⟨h.interval, h.hold, h.response, h.recovery, h.drain⟩

theorem State.asserted_timersLegal (s : State) : s.asserted.TimersLegal where
  interval := Nat.zero_le _
  hold := nofun
  response _ _ _ _ htag := by simp [State.asserted, State.reset] at htag
  recovery := nofun
  drain := nofun

theorem State.TimersLegal.released {s : State} (h : s.TimersLegal) : s.released.TimersLegal :=
  ⟨Nat.zero_le _, h.hold, h.response, h.recovery, h.drain⟩

end Sys2Proof.Machine
end

section
/-! SUPPORT. The law of the memory port and the bit-operation unit (R66, R67, R73, R79, R89), and the laws
of order and hazard (R32, R33), under the small changes. -/

namespace Sys2Proof.Machine

open Sys2Proof

/-! ### Entries, tags and slots -/

/-- What a tag records of an entry depends on that tag alone. -/
theorem State.serves_congr {s t : State} {n : Fin 8} (h : t.mem.tags[n] = s.mem.tags[n])
    (e : Entry) : t.serves n e ↔ s.serves n e := by
  unfold State.serves
  rw [h]

theorem State.serves_busy {s : State} {n : Fin 8} {e : Entry} (h : s.serves n e) :
    ∃ p i, s.mem.tags[n] = .busy e.id p i := by
  unfold State.serves at h
  split at h
  · exact h.elim
  · obtain ⟨-, i, htag⟩ := h
    exact ⟨_, _, htag⟩
  · obtain ⟨-, i, htag⟩ := h
    exact ⟨_, _, htag⟩
  · obtain ⟨-, i, htag⟩ := h
    exact ⟨_, _, htag⟩

/-- R67, R91: an issued access in a phase that is no bit operation's belongs to a PLAIN entry, a fetch to a
FETCHING one, an issued write-back to a WRITING_BACK one. -/
theorem State.phase_of_serves {s : State} {n : Fin 8} {e : Entry} {o : EntryId} {p : Phase}
    {i : Option Issued} (h : s.serves n e) (htag : s.mem.tags[n] = .busy o p i) :
    (e.kind.isBit = false ∧ p = e.kind.grantPhase ∧ i.isSome = true) ∨
      (e.kind.isBit = true ∧ e.state = .fetching ∧ p = .fetch ∧ i.isSome = true) ∨
      (e.kind.isBit = true ∧ e.state = .writingBack ∧ p = .writeBack) := by
  unfold State.serves at h
  rw [htag] at h
  split at h
  · exact h.elim
  · obtain ⟨hplain, i', heq⟩ := h
    cases heq
    exact .inl ⟨hplain, rfl, rfl⟩
  · next hstate =>
    obtain ⟨hbit, i', heq⟩ := h
    cases heq
    exact .inr (.inl ⟨hbit, hstate, rfl, rfl⟩)
  · next hstate =>
    obtain ⟨hbit, i', heq⟩ := h
    cases heq
    exact .inr (.inr ⟨hbit, hstate, rfl⟩)

theorem EntryKind.grantPhase_plain {k : EntryKind} (h : k.isBit = false) :
    k.grantState = .issued ∧ (k.grantPhase = .read ∨ k.grantPhase = .write) := by
  cases k with
  | plainRead => exact ⟨rfl, .inl rfl⟩
  | plainWrite be data => exact ⟨rfl, .inr rfl⟩
  | bitRead op bit => cases h
  | bitWrite op bit => cases h

theorem EntryKind.grantPhase_bit {k : EntryKind} (h : k.isBit = true) :
    k.grantState = .fetching ∧ k.grantPhase = .fetch := by
  cases k with
  | plainRead => cases h
  | plainWrite be data => cases h
  | bitRead op bit => exact ⟨rfl, rfl⟩
  | bitWrite op bit => exact ⟨rfl, rfl⟩

theorem Slot.Serves.ne_waiting {x : Slot} {e : Entry} (h : x.Serves e) : e.state ≠ .waiting := by
  intro hwaiting
  rcases h.phase with ⟨hstate, -⟩ | ⟨hstate, -⟩ <;> exact nomatch hwaiting.symm.trans hstate

/-- The entry of a name changes; the others stay. -/
theorem mem_changeEntry_iff {entries : List Entry} {e : Entry} (he : e ∈ entries)
    (hnamed : ∀ x ∈ entries, x.id = e.id → x = e) {f : Entry → Entry} {y : Entry} :
    y ∈ changeEntry e.id f entries ↔ y = f e ∨ (y ∈ entries ∧ y.id ≠ e.id) := by
  rw [changeEntry, List.mem_map]
  constructor
  · rintro ⟨x, hx, rfl⟩
    split_ifs with hid
    · exact .inl (by rw [hnamed x hx hid])
    · exact .inr ⟨hx, hid⟩
  · rintro (rfl | ⟨hy, hid⟩)
    · exact ⟨e, he, if_pos rfl⟩
    · exact ⟨y, hy, if_neg hid⟩

/-- Every law of the port but that of the occupancy. -/
theorem State.PortLegal.congr {s t : State} (h : s.PortLegal)
    (hq : t.queue.entries = s.queue.entries) (htags : t.mem.tags = s.mem.tags)
    (hwaits : t.mem.writeBacks = s.mem.writeBacks) (hslots : t.slots = s.slots)
    (hport : t.mem.port = s.mem.port) : t.PortLegal where
  waiting := by rw [hq]; exact h.waiting
  granted e he hstate := by
    rw [hq] at he
    obtain ⟨n, hdtag, hserves⟩ := h.granted e he hstate
    exact ⟨n, hdtag, (State.serves_congr (by rw [htags]) e).mpr hserves⟩
  owner := by rw [hq, htags]; exact h.owner
  writeBackOnce := by rw [hwaits]; exact h.writeBackOnce
  writeBackWaits := by rw [hwaits, htags]; exact h.writeBackWaits
  twoSlots := by rw [hslots]; exact h.twoSlots
  slotOwners := by rw [hslots]; exact h.slotOwners
  slotServes := by rw [hslots, hq]; exact h.slotServes
  slotHeld := by rw [hslots, hq]; exact h.slotHeld
  stalled := by rw [htags, hport]; exact h.stalled
  noBusy := by rw [htags, hport]; exact h.noBusy

/-- A WAITING entry joins the queue. -/
theorem State.PortLegal.append {s t : State} (h : s.PortLegal) {new : Entry}
    (hentries : t.queue.entries = s.queue.entries ++ [new]) (hwaiting : new.state = .waiting)
    (hdtag : new.dtag = none) (hmem : t.mem = s.mem) (hslots : t.slots = s.slots) : t.PortLegal := by
  have hold {e : Entry} (he : e ∈ s.queue.entries) : e ∈ t.queue.entries := by
    rw [hentries]
    exact List.mem_append_left _ he
  have hcases {e : Entry} (he : e ∈ t.queue.entries) : e ∈ s.queue.entries ∨ e = new := by
    rwa [hentries, List.mem_append, List.mem_singleton] at he
  exact {
    waiting := fun e he hstate => by
      rcases hcases he with he | rfl
      · exact h.waiting e he hstate
      · exact hdtag
    granted := fun e he hstate => by
      rcases hcases he with he | rfl
      · obtain ⟨n, hn, hserves⟩ := h.granted e he hstate
        exact ⟨n, hn, (State.serves_congr (by rw [hmem]) e).mpr hserves⟩
      · exact absurd hwaiting hstate
    owner := fun n o p i htag => by
      rw [hmem] at htag
      obtain ⟨e, he, hid, hn⟩ := h.owner n o p i htag
      exact ⟨e, hold he, hid, hn⟩
    writeBackOnce := by rw [hmem]; exact h.writeBackOnce
    writeBackWaits := by rw [hmem]; exact h.writeBackWaits
    twoSlots := by rw [hslots]; exact h.twoSlots
    slotOwners := by rw [hslots]; exact h.slotOwners
    slotServes := fun x hx => by
      rw [hslots] at hx
      obtain ⟨e, he, hserves⟩ := h.slotServes x hx
      exact ⟨e, hold he, hserves⟩
    slotHeld := fun e he hstate => by
      rw [hslots]
      rcases hcases he with he | rfl
      · exact h.slotHeld e he hstate
      · rcases hstate with hstate | hstate <;> exact nomatch hwaiting.symm.trans hstate
    stalled := by rw [hmem]; exact h.stalled
    noBusy := by rw [hmem]; exact h.noBusy }

/-- A port with nothing to do. -/
theorem State.PortLegal.of_idle {s : State} (hq : s.queue.entries = [])
    (htags : ∀ n : Fin 8, s.mem.tags[n] = .free) (hwaits : s.mem.writeBacks = [])
    (hslots : s.slots = []) : s.PortLegal where
  waiting := by rw [hq]; nofun
  granted := by rw [hq]; nofun
  owner n o p i htag := nomatch (htags n).symm.trans htag
  writeBackOnce := by rw [hwaits]; exact List.nodup_nil
  writeBackWaits n := by
    rw [hwaits]
    exact iff_of_false nofun fun ⟨o, htag⟩ => nomatch (htags n).symm.trans htag
  twoSlots := by rw [hslots]; exact Nat.zero_le _
  slotOwners := by rw [hslots]; exact List.nodup_nil
  slotServes := by rw [hslots]; nofun
  slotHeld := by rw [hq]; nofun
  stalled hall := nomatch (htags 0).symm.trans (hall 0)
  noBusy _ n o p i htag := nomatch (htags n).symm.trans htag

/-! ### An access and its owner -/

section Access

variable {s : State} {e : Entry} {n : Fin 8} {p : Phase}

theorem State.PortLegal.access_serves (h : s.PortLegal) (hqueue : s.QueueLegal)
    (haccess : s.Access n e p) : e.dtag = some n ∧ s.serves n e := by
  obtain ⟨i, htag⟩ := haccess.tag
  obtain ⟨x, hx, hid, hdtag⟩ := h.owner n _ _ _ htag
  obtain rfl := hqueue.eq_of_id hx haccess.mem hid
  have hstate : x.state ≠ .waiting := fun hwaiting =>
    nomatch (h.waiting x hx hwaiting).symm.trans hdtag
  obtain ⟨m, hm, hserves⟩ := h.granted x hx hstate
  obtain rfl := Option.some_inj.mp (hm.symm.trans hdtag)
  exact ⟨hm, hserves⟩

theorem State.PortLegal.access_granted (h : s.PortLegal) (hqueue : s.QueueLegal)
    (haccess : s.Access n e p) : e.state ≠ .waiting := fun hwaiting =>
  nomatch (h.waiting e haccess.mem hwaiting).symm.trans (h.access_serves hqueue haccess).1

/-- R79, R81: only a RUNNING port has an access. -/
theorem State.PortLegal.access_running (h : s.PortLegal) (haccess : s.Access n e p) :
    s.mem.port = .running := by
  obtain ⟨i, htag⟩ := haccess.tag
  exact not_not.mp fun hport => h.noBusy hport n _ _ _ htag

/-- The owner of a fetch is a bit operation in FETCHING. -/
theorem State.PortLegal.access_fetch (h : s.PortLegal) (hqueue : s.QueueLegal)
    (haccess : s.Access n e .fetch) : e.kind.isBit = true ∧ e.state = .fetching := by
  obtain ⟨i, htag⟩ := haccess.tag
  rcases State.phase_of_serves (h.access_serves hqueue haccess).2 htag with
    ⟨hplain, hphase, -⟩ | ⟨hbit, hstate, -, -⟩ | ⟨-, -, hphase⟩
  · rcases (EntryKind.grantPhase_plain hplain).2 with hread | hwrite
    · exact nomatch hphase.trans hread
    · exact nomatch hphase.trans hwrite
  · exact ⟨hbit, hstate⟩
  · cases hphase

/-- The owner of a plain access is no bit operation. -/
theorem State.PortLegal.access_plain (h : s.PortLegal) (hqueue : s.QueueLegal)
    (haccess : s.Access n e p) (hp : p = .read ∨ p = .write) : e.kind.isBit = false := by
  obtain ⟨i, htag⟩ := haccess.tag
  rcases State.phase_of_serves (h.access_serves hqueue haccess).2 htag with
    ⟨hplain, -, -⟩ | ⟨-, -, rfl, -⟩ | ⟨-, -, rfl⟩
  · exact hplain
  · rcases hp with hp | hp <;> cases hp
  · rcases hp with hp | hp <;> cases hp

/-- A tag that fits no entry is in no legal state. -/
theorem State.PortLegal.no_orphan (h : s.PortLegal) (hqueue : s.QueueLegal) : ¬ s.Orphan n := by
  rintro (⟨htag, hnone⟩ | ⟨haccess, hplain⟩)
  · obtain ⟨e, he, hid, -⟩ := h.owner n _ _ _ htag
    exact absurd hid (by simpa using List.find?_eq_none.mp hnone e he)
  · have hbit := (h.access_fetch hqueue haccess).1
    rw [EntryKind.isBit, hplain] at hbit
    cases hbit

/-- R90: a PLAIN entry holds no slot. -/
theorem State.PortLegal.plain_slots (h : s.PortLegal) (hqueue : s.QueueLegal)
    (haccess : s.Access n e p) (hp : p = .read ∨ p = .write) :
    s.slots.filter (fun x => x.owner ≠ e.id) = s.slots := by
  rw [List.filter_eq_self]
  intro x hx
  refine decide_eq_true fun howner => ?_
  obtain ⟨a, ha, hserves⟩ := h.slotServes x hx
  obtain rfl := hqueue.eq_of_id ha haccess.mem (hserves.owner.trans howner)
  have hplain := h.access_plain hqueue haccess hp
  rw [EntryKind.isBit, hserves.opBit] at hplain
  cases hplain

/-! ### The ends of entries -/

/-- R74 to R76: the entry, its tag and its slot go together. -/
theorem State.PortLegal.accessEnds (h : s.PortLegal) (hqueue : s.QueueLegal)
    (haccess : s.Access n e p) {r : TagRecord} (hr : ∀ o p i, r ≠ .busy o p i) {t : State}
    (hq : t.queue.entries = s.queue.entries.filter (fun x => x.id ≠ e.id))
    (htags : t.mem.tags = s.mem.tags.set n r) (hwaits : t.mem.writeBacks = s.mem.writeBacks)
    (hslots : t.slots = s.slots.filter (fun x => x.owner ≠ e.id))
    (hstalled : (∀ m : Fin 8, t.mem.tags[m] = .quarantined) → t.mem.port ≠ .running)
    (hnoBusy : t.mem.port ≠ .running → ∀ m : Fin 8, t.mem.tags[m] = .quarantined) :
    t.PortLegal := by
  obtain ⟨issued, htag⟩ := haccess.tag
  have hdtag := (h.access_serves hqueue haccess).1
  have hmem {x : Entry} : x ∈ t.queue.entries ↔ x ∈ s.queue.entries ∧ x.id ≠ e.id := by
    rw [hq, List.mem_filter, decide_eq_true_eq]
  have hself : t.mem.tags[n] = r := by rw [htags, getElem_set_fin, if_pos rfl]
  have hother {m : Fin 8} (hm : m ≠ n) : t.mem.tags[m] = s.mem.tags[m] := by
    rw [htags, getElem_set_fin, if_neg hm]
  have hne {m : Fin 8} {o : EntryId} {p : Phase} {i : Option Issued}
      (hbusy : t.mem.tags[m] = .busy o p i) : m ≠ n := by
    rintro rfl
    exact hr o p i (hself.symm.trans hbusy)
  exact {
    waiting := fun x hx => h.waiting x (hmem.mp hx).1
    granted := fun x hx hstate => by
      obtain ⟨hx, hid⟩ := hmem.mp hx
      obtain ⟨m, hm, hserves⟩ := h.granted x hx hstate
      have hmn : m ≠ n := by
        rintro rfl
        obtain ⟨p', i', hbusy⟩ := State.serves_busy hserves
        exact hid (TagRecord.busy.inj (htag.symm.trans hbusy)).1.symm
      exact ⟨m, hm, (State.serves_congr (hother hmn) x).mpr hserves⟩
    owner := fun m o p' i' hbusy => by
      have hmn := hne hbusy
      rw [hother hmn] at hbusy
      obtain ⟨x, hx, hid, hm⟩ := h.owner m o p' i' hbusy
      refine ⟨x, hmem.mpr ⟨hx, fun hsame => hmn ?_⟩, hid, hm⟩
      obtain rfl := hqueue.eq_of_id hx haccess.mem hsame
      exact Option.some_inj.mp (hm.symm.trans hdtag)
    writeBackOnce := by rw [hwaits]; exact h.writeBackOnce
    writeBackWaits := fun m => by
      rw [hwaits, h.writeBackWaits]
      by_cases hmn : m = n
      · subst hmn
        refine iff_of_false ?_ fun ⟨o, hbusy⟩ => hne hbusy rfl
        rintro ⟨o, hbusy⟩
        cases htag.symm.trans hbusy
      · rw [hother hmn]
    twoSlots := by
      rw [hslots]
      exact (List.length_filter_le _ _).trans h.twoSlots
    slotOwners := by
      rw [hslots]
      exact h.slotOwners.sublist (List.filter_sublist.map _)
    slotServes := fun x hx => by
      rw [hslots, List.mem_filter, decide_eq_true_eq] at hx
      obtain ⟨a, ha, hserves⟩ := h.slotServes x hx.1
      exact ⟨a, hmem.mpr ⟨ha, fun hid => hx.2 (hserves.owner.symm.trans hid)⟩, hserves⟩
    slotHeld := fun x hx hstate => by
      obtain ⟨hx, hid⟩ := hmem.mp hx
      obtain ⟨y, hy, howner⟩ := h.slotHeld x hx hstate
      refine ⟨y, ?_, howner⟩
      rw [hslots, List.mem_filter]
      exact ⟨hy, decide_eq_true (howner ▸ hid)⟩
    stalled := hstalled
    noBusy := fun hport m o p' i' hbusy => nomatch (hnoBusy hport m).symm.trans hbusy }

/-- R37, R41: a WAITING entry has no tag and no slot. -/
theorem State.PortLegal.completeWaiting (h : s.PortLegal) (hwaiting : e.state = .waiting)
    (hnamed : ∀ x ∈ s.queue.entries, x.id = e.id → x = e) (o : UpOutcome) (data : List Word)
    (wrote : Bool) : (s.complete e o data wrote).PortLegal := by
  have hframe := s.complete_frame e o data wrote
  have hmem := hframe.mem
  have hkept {x : Entry} (hx : x ∈ s.queue.entries) (hstate : x.state ≠ .waiting) :
      x ∈ (s.complete e o data wrote).queue.entries :=
    State.mem_complete_iff.mpr ⟨hx, fun hid => hstate (hnamed x hx hid ▸ hwaiting)⟩
  exact {
    waiting := fun x hx => h.waiting x (State.mem_complete_iff.mp hx).1
    granted := fun x hx hstate => by
      obtain ⟨m, hm, hserves⟩ := h.granted x (State.mem_complete_iff.mp hx).1 hstate
      exact ⟨m, hm, (State.serves_congr (by rw [hmem]) x).mpr hserves⟩
    owner := fun m o' p' i' hbusy => by
      rw [hmem] at hbusy
      obtain ⟨x, hx, hid, hm⟩ := h.owner m o' p' i' hbusy
      exact ⟨x, hkept hx (fun hstate => nomatch (h.waiting x hx hstate).symm.trans hm), hid, hm⟩
    writeBackOnce := by rw [hmem]; exact h.writeBackOnce
    writeBackWaits := by rw [hmem]; exact h.writeBackWaits
    twoSlots := by rw [hframe.slots]; exact h.twoSlots
    slotOwners := by rw [hframe.slots]; exact h.slotOwners
    slotServes := fun x hx => by
      rw [hframe.slots] at hx
      obtain ⟨a, ha, hserves⟩ := h.slotServes x hx
      exact ⟨a, hkept ha hserves.ne_waiting, hserves⟩
    slotHeld := fun x hx hstate => by
      rw [hframe.slots]
      exact h.slotHeld x (State.mem_complete_iff.mp hx).1 hstate
    stalled := by rw [hmem]; exact h.stalled
    noBusy := by rw [hmem]; exact h.noBusy }

end Access

/-! ### The grant and the write-back -/

theorem Entry.newSlot_eq_some_iff {e : Entry} {n : Fin 8} {x : Slot} :
    e.newSlot n = some x ↔ ∃ op bit, e.kind.opBit = some (op, bit) ∧
      x = { owner := e.id, dtag := n, word := e.physical, op := op, bit := bit, fetched := none } := by
  simp [Entry.newSlot, eq_comm]

/-- R72, R89: the granted entry has its tag, and a bit operation its slot. -/
theorem State.PortLegal.grant {s : State} {e : Entry} {n : Fin 8} (h : s.PortLegal)
    (hqueue : s.QueueLegal) (he : e ∈ s.queue.entries) (hwaiting : e.state = .waiting)
    (hslot : s.slotMet e = true) (hport : s.mem.port = .running) (hfree : s.mem.tags[n] = .free) :
    State.PortLegal
      { s with
        slots := s.slots ++ (e.newSlot n).toList,
        mem :=
          { s.mem with tags := s.mem.tags.set n (.busy e.id e.kind.grantPhase s.issuedNow) },
        queue := { s.queue with entries := changeEntry e.id (Entry.granted n) s.queue.entries } } := by
  have hmem {y : Entry} := mem_changeEntry_iff he (fun x hx hid => hqueue.eq_of_id hx he hid)
    (f := Entry.granted n) (y := y)
  have hkept {x : Entry} (hx : x ∈ s.queue.entries) (hstate : x.state ≠ .waiting) :
      x ∈ changeEntry e.id (Entry.granted n) s.queue.entries :=
    hmem.mpr (.inr ⟨hx, fun hid => hstate (hqueue.eq_of_id hx he hid ▸ hwaiting)⟩)
  have hself : (s.mem.tags.set n (.busy e.id e.kind.grantPhase s.issuedNow))[n] =
      .busy e.id e.kind.grantPhase s.issuedNow := by rw [getElem_set_fin, if_pos rfl]
  have hother {m : Fin 8} (hm : m ≠ n) :
      (s.mem.tags.set n (.busy e.id e.kind.grantPhase s.issuedNow))[m] = s.mem.tags[m] := by
    rw [getElem_set_fin, if_neg hm]
  exact {
    waiting := fun y hy hstate => by
      rcases hmem.mp hy with rfl | ⟨hy, -⟩
      · exact absurd hstate e.kind.grantState_ne_waiting
      · exact h.waiting y hy hstate
    granted := fun y hy hstate => by
      rcases hmem.mp hy with rfl | ⟨hy, -⟩
      · refine ⟨n, rfl, ?_⟩
        cases hbit : e.kind.isBit with
        | false =>
          have hgrant : (e.granted n).state = .issued := (EntryKind.grantPhase_plain hbit).1
          simp only [State.serves, hgrant]
          exact ⟨hbit, _, hself⟩
        | true =>
          obtain ⟨hgrant, hphase⟩ := EntryKind.grantPhase_bit hbit
          have hgrant' : (e.granted n).state = .fetching := hgrant
          rw [hphase] at hself
          simp only [State.serves, hgrant', hphase]
          exact ⟨hbit, _, hself⟩
      · obtain ⟨m, hm, hserves⟩ := h.granted y hy hstate
        have hmn : m ≠ n := by
          rintro rfl
          obtain ⟨p, i, hbusy⟩ := State.serves_busy hserves
          cases hfree.symm.trans hbusy
        exact ⟨m, hm, (State.serves_congr (hother hmn) y).mpr hserves⟩
    owner := fun m o p i hbusy => by
      by_cases hmn : m = n
      · subst hmn
        cases hself.symm.trans hbusy
        exact ⟨e.granted m, hmem.mpr (.inl rfl), rfl, rfl⟩
      · obtain ⟨x, hx, hid, hm⟩ := h.owner m o p i ((hother hmn).symm.trans hbusy)
        exact ⟨x, hkept hx (fun hstate => nomatch (h.waiting x hx hstate).symm.trans hm), hid, hm⟩
    writeBackOnce := h.writeBackOnce
    writeBackWaits := fun m => by
      by_cases hmn : m = n
      · subst hmn
        refine (h.writeBackWaits m).trans (iff_of_false ?_ ?_)
        · rintro ⟨o, hbusy⟩
          cases hfree.symm.trans hbusy
        · rintro ⟨o, hbusy⟩
          exact nomatch (TagRecord.busy.inj (hself.symm.trans hbusy)).2.2
      · rw [hother hmn]
        exact h.writeBackWaits m
    twoSlots := by
      have htwo := h.twoSlots
      rw [List.length_append, Entry.newSlot]
      rcases (s.slotMet_iff e).mp hslot with hplain | hroom
      · have hnone : e.kind.opBit = none := by simpa [EntryKind.isBit] using hplain
        rw [hnone]
        exact htwo
      · cases e.kind.opBit <;> simp <;> omega
    slotOwners := by
      rw [List.map_append, List.nodup_append']
      refine ⟨h.slotOwners, ?_, ?_⟩
      · cases e.newSlot n <;> simp
      · rw [List.disjoint_left]
        intro o ho hnew
        obtain ⟨x, hx, rfl⟩ := List.mem_map.mp ho
        obtain ⟨y, hy, howner⟩ := List.mem_map.mp hnew
        obtain ⟨op, bit, -, rfl⟩ := Entry.newSlot_eq_some_iff.mp (Option.mem_toList.mp hy)
        obtain ⟨a, ha, hserves⟩ := h.slotServes x hx
        obtain rfl := hqueue.eq_of_id ha he (hserves.owner.trans howner.symm)
        exact hserves.ne_waiting hwaiting
    slotServes := fun x hx => by
      rcases List.mem_append.mp hx with hx | hx
      · obtain ⟨a, ha, hserves⟩ := h.slotServes x hx
        exact ⟨a, hkept ha hserves.ne_waiting, hserves⟩
      · obtain ⟨op, bit, hop, rfl⟩ := Entry.newSlot_eq_some_iff.mp (Option.mem_toList.mp hx)
        have hbit : e.kind.isBit = true := by rw [EntryKind.isBit, hop]; rfl
        exact ⟨e.granted n, hmem.mpr (.inl rfl), rfl, rfl, rfl, hop,
          .inl ⟨(EntryKind.grantPhase_bit hbit).1, rfl⟩⟩
    slotHeld := fun y hy hstate => by
      rcases hmem.mp hy with rfl | ⟨hy, -⟩
      · cases hbit : e.kind.isBit with
        | false =>
          have hgrant : (e.granted n).state = .issued := (EntryKind.grantPhase_plain hbit).1
          rcases hstate with hstate | hstate <;> exact nomatch hgrant.symm.trans hstate
        | true =>
          obtain ⟨⟨op, bit⟩, hop⟩ := Option.isSome_iff_exists.mp hbit
          exact ⟨_, List.mem_append_right _ (Option.mem_toList.mpr
            (Entry.newSlot_eq_some_iff.mpr ⟨op, bit, hop, rfl⟩)), rfl⟩
      · obtain ⟨x, hx, howner⟩ := h.slotHeld y hy hstate
        exact ⟨x, List.mem_append_left _ hx, howner⟩
    stalled := fun hall => nomatch hself.symm.trans (hall n)
    noBusy := fun hnot => absurd hport hnot }

/-- R92: the owner of the fetch waits to write back, with its slot filled. -/
theorem State.PortLegal.fetchWrites {s : State} {e : Entry} {n : Fin 8} (h : s.PortLegal)
    (hqueue : s.QueueLegal) (haccess : s.Access n e .fetch) (f : Fetched) :
    State.PortLegal
      { s with
        slots := (s.storeFetched e.id f).slots,
        mem :=
          { s.mem with
            tags := s.mem.tags.set n (.busy e.id .writeBack none),
            writeBacks := s.mem.writeBacks ++ [n] },
        queue := { s.queue with entries := changeEntry e.id Entry.writingBack s.queue.entries } } := by
  obtain ⟨issued, htag⟩ := haccess.tag
  have he := haccess.mem
  have hdtag := (h.access_serves hqueue haccess).1
  obtain ⟨hbit, hfetching⟩ := h.access_fetch hqueue haccess
  have hmem {y : Entry} := mem_changeEntry_iff he (fun x hx hid => hqueue.eq_of_id hx he hid)
    (f := Entry.writingBack) (y := y)
  have hself : (s.mem.tags.set n (.busy e.id .writeBack none))[n] = .busy e.id .writeBack none := by
    rw [getElem_set_fin, if_pos rfl]
  have hother {m : Fin 8} (hm : m ≠ n) :
      (s.mem.tags.set n (.busy e.id .writeBack none))[m] = s.mem.tags[m] := by
    rw [getElem_set_fin, if_neg hm]
  have hnew : n ∉ s.mem.writeBacks := fun hn => by
    obtain ⟨o, hbusy⟩ := (h.writeBackWaits n).mp hn
    cases htag.symm.trans hbusy
  have hslots : (s.storeFetched e.id f).slots =
      s.slots.map (fun x => if x.owner = e.id then { x with fetched := some f } else x) := rfl
  have howner (x : Slot) :
      (if x.owner = e.id then { x with fetched := some f } else x : Slot).owner = x.owner := by
    split_ifs <;> rfl
  exact {
    waiting := fun y hy hstate => by
      rcases hmem.mp hy with rfl | ⟨hy, -⟩
      · cases hstate
      · exact h.waiting y hy hstate
    granted := fun y hy hstate => by
      rcases hmem.mp hy with rfl | ⟨hy, hid⟩
      · exact ⟨n, hdtag, hbit, none, hself⟩
      · obtain ⟨m, hm, hserves⟩ := h.granted y hy hstate
        have hmn : m ≠ n := by
          rintro rfl
          obtain ⟨p, i, hbusy⟩ := State.serves_busy hserves
          exact hid (TagRecord.busy.inj (htag.symm.trans hbusy)).1.symm
        exact ⟨m, hm, (State.serves_congr (hother hmn) y).mpr hserves⟩
    owner := fun m o p i hbusy => by
      by_cases hmn : m = n
      · subst hmn
        cases hself.symm.trans hbusy
        exact ⟨e.writingBack, hmem.mpr (.inl rfl), rfl, hdtag⟩
      · obtain ⟨x, hx, hid, hm⟩ := h.owner m o p i ((hother hmn).symm.trans hbusy)
        refine ⟨x, hmem.mpr (.inr ⟨hx, fun hsame => hmn ?_⟩), hid, hm⟩
        obtain rfl := hqueue.eq_of_id hx he hsame
        exact Option.some_inj.mp (hm.symm.trans hdtag)
    writeBackOnce := by
      rw [← List.concat_eq_append]
      exact h.writeBackOnce.concat hnew
    writeBackWaits := fun m => by
      rw [List.mem_append, List.mem_singleton]
      by_cases hmn : m = n
      · subst hmn
        exact iff_of_true (.inr rfl) ⟨_, hself⟩
      · rw [hother hmn, or_iff_left hmn]
        exact h.writeBackWaits m
    twoSlots := by
      rw [hslots, List.length_map]
      exact h.twoSlots
    slotOwners := by
      rw [hslots, List.map_map]
      exact (List.map_congr_left fun x _ => howner x).symm ▸ h.slotOwners
    slotServes := fun x hx => by
      rw [hslots] at hx
      obtain ⟨y, hy, rfl⟩ := List.mem_map.mp hx
      obtain ⟨a, ha, hserves⟩ := h.slotServes y hy
      split_ifs with hsame
      · obtain rfl := hqueue.eq_of_id ha he (hserves.owner.trans hsame)
        exact ⟨a.writingBack, hmem.mpr (.inl rfl), hserves.owner, hserves.dtag, hserves.word,
          hserves.opBit, .inr ⟨rfl, rfl⟩⟩
      · exact ⟨a, hmem.mpr (.inr ⟨ha, fun hid => hsame (hserves.owner.symm.trans hid)⟩), hserves⟩
    slotHeld := fun y hy hstate => by
      rw [hslots]
      have hheld {a : Entry} (ha : a ∈ s.queue.entries)
          (hs : a.state = .fetching ∨ a.state = .writingBack) :
          ∃ x ∈ s.slots.map (fun x => if x.owner = e.id then { x with fetched := some f } else x),
            x.owner = a.id := by
        obtain ⟨x, hx, hxa⟩ := h.slotHeld a ha hs
        exact ⟨_, List.mem_map_of_mem hx, (howner x).trans hxa⟩
      rcases hmem.mp hy with rfl | ⟨hy, -⟩
      · obtain ⟨x, hx, hxe⟩ := hheld he (.inl hfetching)
        exact ⟨x, hx, hxe⟩
      · exact hheld hy hstate
    stalled := fun hall => nomatch hself.symm.trans (hall n)
    noBusy := fun hnot => absurd (h.access_running haccess) hnot }

/-- R73, R93: the first write-back waits no more. -/
theorem State.PortLegal.issueWriteBack {s : State} {n : Fin 8} {rest : List (Fin 8)} {o : EntryId}
    {p : Phase} {i : Option Issued} (h : s.PortLegal) (hfirst : s.mem.writeBacks = n :: rest)
    (htag : s.mem.tags[n] = .busy o p i) :
    State.PortLegal
      { s with
        mem :=
          { s.mem with
            writeBacks := rest, tags := s.mem.tags.set n (.busy o .writeBack s.issuedNow) } } := by
  have hself : (s.mem.tags.set n (.busy o .writeBack s.issuedNow))[n] =
      .busy o .writeBack s.issuedNow := by rw [getElem_set_fin, if_pos rfl]
  have hother {m : Fin 8} (hm : m ≠ n) :
      (s.mem.tags.set n (.busy o .writeBack s.issuedNow))[m] = s.mem.tags[m] := by
    rw [getElem_set_fin, if_neg hm]
  have honce := h.writeBackOnce
  rw [hfirst, List.nodup_cons] at honce
  obtain ⟨o', hwaits⟩ := (h.writeBackWaits n).mp (by rw [hfirst]; exact List.mem_cons_self)
  cases htag.symm.trans hwaits
  exact {
    waiting := h.waiting
    granted := fun y hy hstate => by
      obtain ⟨m, hm, hserves⟩ := h.granted y hy hstate
      refine ⟨m, hm, ?_⟩
      by_cases hmn : m = n
      · subst hmn
        obtain ⟨p', i', hbusy⟩ := State.serves_busy hserves
        cases htag.symm.trans hbusy
        rcases State.phase_of_serves hserves htag with ⟨-, -, hnone⟩ | ⟨-, -, hphase, -⟩ |
          ⟨hbit, hback, -⟩
        · cases hnone
        · cases hphase
        · simp only [State.serves, hback]
          exact ⟨hbit, _, hself⟩
      · exact (State.serves_congr (hother hmn) y).mpr hserves
    owner := fun m o' p' i' hbusy => by
      by_cases hmn : m = n
      · subst hmn
        cases hself.symm.trans hbusy
        exact h.owner m o _ _ htag
      · exact h.owner m o' p' i' ((hother hmn).symm.trans hbusy)
    writeBackOnce := honce.2
    writeBackWaits := fun m => by
      by_cases hmn : m = n
      · subst hmn
        refine iff_of_false honce.1 ?_
        rintro ⟨o', hbusy⟩
        cases hself.symm.trans hbusy
      · rw [hother hmn, ← h.writeBackWaits m, hfirst, List.mem_cons, or_iff_right hmn]
    twoSlots := h.twoSlots
    slotOwners := h.slotOwners
    slotServes := h.slotServes
    slotHeld := h.slotHeld
    stalled := fun hall => nomatch hself.symm.trans (hall n)
    noBusy := fun hport => absurd htag (h.noBusy hport n _ _ _) }

/-! ### Late answers, stall and recovery -/

/-- R77: a QUARANTINED tag belongs to nothing. -/
theorem State.PortLegal.freeLate {s : State} {n : Fin 8} (h : s.PortLegal)
    (htag : s.mem.tags[n] = .quarantined) : (s.setTag n .free).PortLegal := by
  have hself : (s.setTag n .free).mem.tags[n] = .free := by
    rw [State.setTag_mem_tags, getElem_set_fin, if_pos rfl]
  have hother {m : Fin 8} (hm : m ≠ n) : (s.setTag n .free).mem.tags[m] = s.mem.tags[m] := by
    rw [State.setTag_mem_tags, getElem_set_fin, if_neg hm]
  have hbusy {m : Fin 8} {o : EntryId} {p : Phase} {i : Option Issued} :
      (s.setTag n .free).mem.tags[m] = .busy o p i ↔ s.mem.tags[m] = .busy o p i := by
    by_cases hmn : m = n
    · subst hmn
      rw [hself, htag]
      exact iff_of_false nofun nofun
    · rw [hother hmn]
  exact {
    waiting := h.waiting
    granted := fun y hy hstate => by
      obtain ⟨m, hm, hserves⟩ := h.granted y hy hstate
      have hmn : m ≠ n := by
        rintro rfl
        obtain ⟨p, i, hb⟩ := State.serves_busy hserves
        cases htag.symm.trans hb
      exact ⟨m, hm, (State.serves_congr (hother hmn) y).mpr hserves⟩
    owner := fun m o p i hb => h.owner m o p i (hbusy.mp hb)
    writeBackOnce := h.writeBackOnce
    writeBackWaits := fun m => by
      simp only [hbusy]
      exact h.writeBackWaits m
    twoSlots := h.twoSlots
    slotOwners := h.slotOwners
    slotServes := h.slotServes
    slotHeld := h.slotHeld
    stalled := fun hall => nomatch hself.symm.trans (hall n)
    noBusy := fun hport m o p i hb => h.noBusy hport m o p i (hbusy.mp hb) }

/-- A port that is not RUNNING has no access, so its tags may all become FREE. -/
theorem State.PortLegal.recover {s t : State} (h : s.PortLegal) (hport : s.mem.port ≠ .running)
    (hq : t.queue = s.queue) (hslots : t.slots = s.slots)
    (hwaits : t.mem.writeBacks = s.mem.writeBacks) (hfree : ∀ n : Fin 8, t.mem.tags[n] = .free) :
    t.PortLegal where
  waiting := by rw [hq]; exact h.waiting
  granted e he hstate := by
    rw [hq] at he
    obtain ⟨n, -, hserves⟩ := h.granted e he hstate
    obtain ⟨p, i, hbusy⟩ := State.serves_busy hserves
    exact absurd hbusy (h.noBusy hport n _ p i)
  owner n o p i hbusy := nomatch (hfree n).symm.trans hbusy
  writeBackOnce := by rw [hwaits]; exact h.writeBackOnce
  writeBackWaits n := by
    rw [hwaits, h.writeBackWaits]
    exact iff_of_false (fun ⟨o, hbusy⟩ => h.noBusy hport n o _ _ hbusy)
      fun ⟨o, hbusy⟩ => nomatch (hfree n).symm.trans hbusy
  twoSlots := by rw [hslots]; exact h.twoSlots
  slotOwners := by rw [hslots]; exact h.slotOwners
  slotServes := by rw [hslots, hq]; exact h.slotServes
  slotHeld := by rw [hslots, hq]; exact h.slotHeld
  stalled hall := nomatch (hfree 0).symm.trans (hall 0)
  noBusy _ n o p i hbusy := nomatch (hfree n).symm.trans hbusy

theorem TagRecord.state_eq_quarantined_iff {r : TagRecord} :
    r.state = .quarantined ↔ r = .quarantined := by
  cases r <;> simp [TagRecord.state]

/-- R79: the count of QUARANTINED tags is 8 when all are. -/
theorem State.countTags_quarantined_eq_eight_iff (s : State) :
    s.countTags .quarantined = 8 ↔ ∀ n : Fin 8, s.mem.tags[n] = .quarantined := by
  calc s.countTags .quarantined = 8
      ↔ s.countTags .quarantined = (List.finRange 8).length := by rw [List.length_finRange]
    _ ↔ ∀ n ∈ List.finRange 8, decide (s.mem.tags[n].state = .quarantined) = true :=
        List.length_filter_eq_length_iff
    _ ↔ ∀ n : Fin 8, s.mem.tags[n] = .quarantined := by
        simp only [List.mem_finRange, true_imp_iff, decide_eq_true_eq,
          TagRecord.state_eq_quarantined_iff]

/-- R79: what becomes of a RUNNING port at a timeout. -/
theorem State.stallIfNoTag_port {s : State} (h : s.mem.port = .running) :
    s.stallIfNoTag.mem.port = .running ↔ ¬ ∀ n : Fin 8, s.mem.tags[n] = .quarantined := by
  unfold State.stallIfNoTag
  rw [← State.countTags_quarantined_eq_eight_iff]
  split_ifs with hall
  · exact iff_of_false nofun fun hnot => hnot hall.2
  · exact iff_of_true h fun hcount => hall ⟨h, hcount⟩

theorem State.stallIfNoTag_tags (s : State) : s.stallIfNoTag.mem.tags = s.mem.tags := by
  rw [State.stallIfNoTag_eq]

theorem State.stallIfNoTag_writeBacks (s : State) :
    s.stallIfNoTag.mem.writeBacks = s.mem.writeBacks := by
  rw [State.stallIfNoTag_eq]

theorem State.stallIfNoTag_slots (s : State) : s.stallIfNoTag.slots = s.slots := by
  rw [State.stallIfNoTag_eq]

/-- R76, R79: an access times out. -/
theorem State.PortLegal.timesOut {s : State} {e : Entry} {n : Fin 8} {p : Phase} (h : s.PortLegal)
    (hqueue : s.QueueLegal) (haccess : s.Access n e p) (o : UpOutcome) :
    (((s.setTag n .quarantined).releaseSlot e.id).complete e o [] false).stallIfNoTag.PortLegal := by
  have hframe := ((s.setTag n .quarantined).releaseSlot e.id).complete_frame e o [] false
  have htags := congrArg MemoryPort.tags hframe.mem
  have hrunning := (congrArg MemoryPort.port hframe.mem).trans (h.access_running haccess)
  have hwaits : (((s.setTag n .quarantined).releaseSlot e.id).complete e o [] false).mem.writeBacks =
      s.mem.writeBacks := (congrArg MemoryPort.writeBacks hframe.mem).trans rfl
  have hport := State.stallIfNoTag_port hrunning
  refine h.accessEnds hqueue haccess (r := .quarantined) nofun
    ((congrArg AdmissionQueue.entries (State.stallIfNoTag_queue _)).trans (State.complete_entries ..))
    ((State.stallIfNoTag_tags _).trans htags)
    ((State.stallIfNoTag_writeBacks _).trans hwaits)
    ((State.stallIfNoTag_slots _).trans hframe.slots) ?_ ?_
  · rw [State.stallIfNoTag_tags, Ne, hport, not_not]
    exact id
  · rw [State.stallIfNoTag_tags, Ne, hport, not_not]
    exact id

/-- An access ends with its tag FREE, on a RUNNING port. -/
theorem State.PortLegal.accessFrees {s t : State} {e : Entry} {n : Fin 8} {p : Phase}
    (h : s.PortLegal) (hqueue : s.QueueLegal) (haccess : s.Access n e p)
    (hq : t.queue.entries = s.queue.entries.filter (fun x => x.id ≠ e.id))
    (hmem : t.mem = (s.setTag n .free).mem)
    (hslots : t.slots = s.slots.filter (fun x => x.owner ≠ e.id)) : t.PortLegal := by
  have hrunning : t.mem.port = .running :=
    (congrArg MemoryPort.port hmem).trans (h.access_running haccess)
  have htags : t.mem.tags = s.mem.tags.set n .free := congrArg MemoryPort.tags hmem
  have hwaits : t.mem.writeBacks = s.mem.writeBacks :=
    (congrArg MemoryPort.writeBacks hmem).trans rfl
  refine h.accessEnds hqueue haccess (r := .free) nofun hq htags hwaits hslots
    (fun hall => ?_) fun hnot => absurd hrunning hnot
  have hself := hall n
  rw [htags, getElem_set_fin, if_pos rfl] at hself
  cases hself

/-! ### Time -/

theorem State.advance_writeBacks (k : Nat) (s : State) :
    (s.advance k).mem.writeBacks = s.mem.writeBacks := by
  unfold State.advance
  split <;> rfl

theorem State.advance_slots (k : Nat) (s : State) : (s.advance k).slots = s.slots := by
  unfold State.advance
  split <;> rfl

theorem TagRecord.advance_eq_quarantined_iff {k : Nat} {r : TagRecord} :
    r.advance k = .quarantined ↔ r = .quarantined := by
  cases r with
  | free => exact iff_of_false nofun nofun
  | quarantined => exact iff_of_true rfl rfl
  | busy o p i => cases i <;> exact iff_of_false nofun nofun

/-- Time counts timers; it moves no entry, tag or slot. -/
theorem State.PortLegal.advance {s : State} (h : s.PortLegal) (k : Nat) :
    (s.advance k).PortLegal := by
  by_cases hreset : s.resetAsserted = true
  · rw [State.advance_asserted hreset]
    exact h
  have hreleased := Bool.eq_false_iff.mpr hreset
  have hentries := State.advance_entries hreleased k
  have htag := State.advance_tag hreleased k
  have hmem {y : Entry} : y ∈ (s.advance k).queue.entries ↔ ∃ x ∈ s.queue.entries, x.aged k = y := by
    rw [hentries, List.mem_map]
  exact {
    waiting := fun y hy hstate => by
      obtain ⟨x, hx, rfl⟩ := hmem.mp hy
      exact h.waiting x hx hstate
    granted := fun y hy hstate => by
      obtain ⟨x, hx, rfl⟩ := hmem.mp hy
      obtain ⟨m, hm, hserves⟩ := h.granted x hx hstate
      refine ⟨m, hm, ?_⟩
      unfold State.serves at hserves ⊢
      rw [htag]
      cases hx : x.state with
      | waiting => rw [hx] at hserves; exact hserves.elim
      | issued =>
        rw [hx] at hserves
        obtain ⟨hplain, i, hbusy⟩ := hserves
        simp only [Entry.aged, hx]
        exact ⟨hplain, _, by rw [hbusy]; rfl⟩
      | fetching =>
        rw [hx] at hserves
        obtain ⟨hbit, i, hbusy⟩ := hserves
        simp only [Entry.aged, hx]
        exact ⟨hbit, _, by rw [hbusy]; rfl⟩
      | writingBack =>
        rw [hx] at hserves
        obtain ⟨hbit, i, hbusy⟩ := hserves
        simp only [Entry.aged, hx]
        refine ⟨hbit, i.map fun x => { x with timer := x.timer + k }, ?_⟩
        rw [hbusy]
        cases i <;> rfl
    owner := fun m o p i hbusy => by
      rw [htag] at hbusy
      obtain ⟨j, hbusy, -⟩ := TagRecord.advance_eq_busy hbusy
      obtain ⟨x, hx, hid, hm⟩ := h.owner m o p j hbusy
      exact ⟨x.aged k, hmem.mpr ⟨x, hx, rfl⟩, hid, hm⟩
    writeBackOnce := by rw [State.advance_writeBacks]; exact h.writeBackOnce
    writeBackWaits := fun m => by
      rw [State.advance_writeBacks, h.writeBackWaits, htag]
      refine exists_congr fun o => ⟨fun hbusy => by rw [hbusy]; rfl, fun hbusy => ?_⟩
      obtain ⟨j, hbusy, hj⟩ := TagRecord.advance_eq_busy hbusy
      rw [hbusy, Option.map_eq_none_iff.mp hj.symm]
    twoSlots := by rw [State.advance_slots]; exact h.twoSlots
    slotOwners := by rw [State.advance_slots]; exact h.slotOwners
    slotServes := fun x hx => by
      rw [State.advance_slots] at hx
      obtain ⟨a, ha, hserves⟩ := h.slotServes x hx
      exact ⟨a.aged k, hmem.mpr ⟨a, ha, rfl⟩, hserves.owner, hserves.dtag, hserves.word,
        hserves.opBit, hserves.phase⟩
    slotHeld := fun y hy hstate => by
      rw [State.advance_slots]
      obtain ⟨x, hx, rfl⟩ := hmem.mp hy
      exact h.slotHeld x hx hstate
    stalled := fun hall => by
      rw [State.advance_port]
      exact h.stalled fun m => TagRecord.advance_eq_quarantined_iff.mp ((htag m).symm.trans (hall m))
    noBusy := fun hport m o p i hbusy => by
      rw [State.advance_port] at hport
      rw [htag] at hbusy
      obtain ⟨j, hbusy, -⟩ := TagRecord.advance_eq_busy hbusy
      exact h.noBusy hport m o p j hbusy }

/-! ### The law of the port -/

theorem State.Change.portLegal {s t : State} (hchange : s.Change t) (hqueue : s.QueueLegal)
    (h : s.PortLegal) : t.PortLegal := by
  cases hchange with
  | unseen hagrees =>
    exact h.congr (by rw [hagrees.queue]) hagrees.tags hagrees.writeBacks hagrees.slots hagrees.port
  | pass _ => exact h.advance _
  | enters kind _ _ _ _ _ =>
    exact h.append (congrArg AdmissionQueue.entries (State.enqueue_queue ..)) rfl rfl rfl rfl
  | admitMonitor kind _ _ _ =>
    exact h.append (congrArg AdmissionQueue.entries (State.enqueue_queue ..)) rfl rfl rfl rfl
  | completeWaiting o hwaiting _ hnamed =>
    exact h.completeWaiting hwaiting (hnamed hqueue.names) o [] false
  | grant he hwaiting _ _ hslot hport hfree => exact h.grant hqueue he hwaiting hslot hport hfree
  | issueWriteBack hfirst htag => exact h.issueWriteBack hfirst htag
  | dropWriteBack hfirst hidle =>
    obtain ⟨o, hbusy⟩ := (h.writeBackWaits _).mp (by rw [hfirst]; exact List.mem_cons_self)
    exact absurd hbusy (hidle o _ _)
  | freeLate htag => exact h.freeLate htag
  | freeOrphan horphan => exact absurd horphan (h.no_orphan hqueue)
  | orphanTimesOut horphan => exact absurd horphan (h.no_orphan hqueue)
  | plainDone haccess hp o data wrote =>
    exact h.accessFrees hqueue haccess (State.complete_entries ..) (State.complete_frame ..).mem
      ((State.complete_frame ..).slots.trans (h.plain_slots hqueue haccess hp).symm)
  | accessEnds haccess o data wrote =>
    exact h.accessFrees hqueue haccess (State.complete_entries ..) (State.complete_frame ..).mem
      (State.complete_frame ..).slots
  | fetchWrites haccess f => exact h.fetchWrites hqueue haccess f
  | timesOut haccess o => exact h.timesOut hqueue haccess o
  | recover hport =>
    exact h.recover (by rw [hport]; nofun) rfl rfl rfl fun n => by simp
  | clearFault hport =>
    exact ⟨h.waiting, h.granted, h.owner, h.writeBackOnce, h.writeBackWaits, h.twoSlots, h.slotOwners,
      h.slotServes, h.slotHeld, nofun, fun _ => h.noBusy (by rw [hport]; nofun)⟩
  | takeEvent _ _ =>
    rw [State.emptyIfEdge_eq]
    exact h.congr rfl rfl rfl rfl rfl
  | _ => exact h.congr rfl rfl rfl rfl rfl

theorem State.asserted_portLegal (s : State) : s.asserted.PortLegal :=
  .of_idle rfl (fun n => by simp [State.asserted, State.reset]) rfl rfl

/-! ### Order and hazard (R32, R33) -/

/-- The order of two entries in the queue is kept while the state of neither turns. -/
theorem grantedInOrder_of_continues {a b a' b' : Entry} (h : grantedInOrder a b)
    (ha : a'.Continues a) (hb : b'.Continues b) (hsa : a'.state = a.state)
    (hsb : b'.state = b.state) : grantedInOrder a' b' := by
  unfold grantedInOrder overlap at h ⊢
  rw [ha.requester, ha.physical, ha.length, hb.requester, hb.physical, hb.length, hsa, hsb]
  exact h

/-- A WAITING entry may stand behind any other. -/
theorem grantedInOrder_waiting {a b : Entry} (h : b.state = .waiting) : grantedInOrder a b :=
  ⟨fun _ hb => absurd h hb, fun _ => h⟩

theorem State.OrderLegal.congr {s t : State} (h : s.OrderLegal)
    (hq : t.queue.entries = s.queue.entries) : t.OrderLegal := by
  rw [State.OrderLegal, hq]
  exact h

theorem State.OrderLegal.append {s t : State} (h : s.OrderLegal) {new : Entry}
    (hentries : t.queue.entries = s.queue.entries ++ [new]) (hwaiting : new.state = .waiting) :
    t.OrderLegal := by
  rw [State.OrderLegal, hentries, List.pairwise_append]
  refine ⟨h, List.pairwise_singleton _ _, fun a _ b hb => ?_⟩
  rw [List.mem_singleton.mp hb]
  exact grantedInOrder_waiting hwaiting

theorem State.OrderLegal.complete {s : State} (h : s.OrderLegal) (e : Entry) (o : UpOutcome)
    (data : List Word) (wrote : Bool) : (s.complete e o data wrote).OrderLegal := by
  rw [State.OrderLegal, State.complete_entries]
  exact h.filter _

/-- Names tell an entry from those around it. -/
theorem ids_ne_of_nodup {before after : List Entry} {e : Entry}
    (hnodup : ((before ++ e :: after).map Entry.id).Nodup) :
    (∀ a ∈ before, a.id ≠ e.id) ∧ ∀ b ∈ after, b.id ≠ e.id := by
  simp only [List.map_append, List.map_cons, List.nodup_append', List.nodup_cons,
    List.disjoint_cons_right] at hnodup
  obtain ⟨-, ⟨hafter, -⟩, hbefore, -⟩ := hnodup
  exact ⟨fun a ha hid => hbefore (hid ▸ List.mem_map_of_mem ha),
    fun b hb hid => hafter (hid ▸ List.mem_map_of_mem hb)⟩

/-- The place of an entry in the queue. -/
theorem exists_split {entries : List Entry} {e : Entry} (he : e ∈ entries)
    (hnodup : (entries.map Entry.id).Nodup) :
    ∃ before after, entries = before ++ e :: after ∧ (∀ a ∈ before, a.id ≠ e.id) ∧
      ∀ b ∈ after, b.id ≠ e.id := by
  obtain ⟨before, after, rfl⟩ := List.append_of_mem he
  exact ⟨before, after, rfl, ids_ne_of_nodup hnodup⟩

theorem changeEntry_split {before after : List Entry} {e : Entry}
    (hbefore : ∀ a ∈ before, a.id ≠ e.id) (hafter : ∀ b ∈ after, b.id ≠ e.id) (f : Entry → Entry) :
    changeEntry e.id f (before ++ e :: after) = before ++ f e :: after := by
  have hother {l : List Entry} (hl : ∀ a ∈ l, a.id ≠ e.id) :
      l.map (fun x => if x.id = e.id then f x else x) = l :=
    (List.map_congr_left fun a ha => if_neg (hl a ha)).trans (List.map_id' l)
  rw [changeEntry, List.map_append, List.map_cons, hother hbefore, hother hafter, if_pos rfl]

/-- One entry changes its state to a granted one: the older entries must let it, the younger ones need
nothing new. -/
theorem State.OrderLegal.changeEntry {s t : State} {before after : List Entry} {e : Entry}
    {f : Entry → Entry} (h : s.OrderLegal) (hq : s.queue.entries = before ++ e :: after)
    (hbefore : ∀ a ∈ before, a.id ≠ e.id) (hafter : ∀ b ∈ after, b.id ≠ e.id)
    (hentries : t.queue.entries = changeEntry e.id f s.queue.entries) (hf : (f e).Continues e)
    (hgranted : (f e).state ≠ .waiting) (hmay : ∀ a ∈ before, grantedInOrder a (f e)) :
    t.OrderLegal := by
  rw [State.OrderLegal, hq, List.pairwise_append, List.pairwise_cons] at h
  obtain ⟨hold, ⟨hyounger, hyoung⟩, hacross⟩ := h
  rw [State.OrderLegal, hentries, hq, changeEntry_split hbefore hafter, List.pairwise_append,
    List.pairwise_cons]
  refine ⟨hold, ⟨fun b hb => ⟨fun _ _ => hgranted, fun hoverlap => ?_⟩, hyoung⟩, fun a ha b hb => ?_⟩
  · refine (hyounger b hb).2 ?_
    unfold overlap at hoverlap ⊢
    rwa [hf.physical, hf.length] at hoverlap
  · rcases List.mem_cons.mp hb with rfl | hb
    · exact hmay a ha
    · exact hacross a ha b (List.mem_cons_of_mem _ hb)

theorem overlap_right_continues {a e e' : Entry} (h : e'.Continues e) : overlap a e' = overlap a e := by
  unfold overlap
  rw [h.physical, h.length]

/-- R31: the grant waits for the older entries of the requester and for those that share a word. -/
theorem State.OrderLegal.grant {s t : State} {e : Entry} {n : Fin 8} (h : s.OrderLegal)
    (hqueue : s.QueueLegal) (he : e ∈ s.queue.entries)
    (horder : orderMet (s.olderThan e.id) e = true) (hhazard : hazardMet (s.olderThan e.id) e = true)
    (hentries : t.queue.entries = Machine.changeEntry e.id (Entry.granted n) s.queue.entries) :
    t.OrderLegal := by
  obtain ⟨before, after, hq, hbefore, hafter⟩ := exists_split he hqueue.names
  rw [State.olderThan_eq hq hbefore] at horder hhazard
  refine h.changeEntry hq hbefore hafter hentries (e.continues_granted n)
    e.kind.grantState_ne_waiting fun a ha => ⟨fun hsame _ => ?_, fun hoverlap => ?_⟩
  · exact (orderMet_iff before e).mp horder a ha hsame
  · rw [overlap_right_continues (e.continues_granted n)] at hoverlap
    exact nomatch ((hazardMet_iff before e).mp hhazard a ha).symm.trans hoverlap

/-- R92: the fetch's owner was granted before. -/
theorem State.OrderLegal.fetchWrites {s t : State} {e : Entry} (h : s.OrderLegal)
    (hqueue : s.QueueLegal) (he : e ∈ s.queue.entries) (hgranted : e.state ≠ .waiting)
    (hentries : t.queue.entries = Machine.changeEntry e.id Entry.writingBack s.queue.entries) :
    t.OrderLegal := by
  obtain ⟨before, after, hq, hbefore, hafter⟩ := exists_split he hqueue.names
  refine h.changeEntry hq hbefore hafter hentries e.continues_writingBack nofun fun a ha => ?_
  rw [State.OrderLegal, hq, List.pairwise_append] at h
  obtain ⟨horder, hhazard⟩ := h.2.2 a ha e List.mem_cons_self
  refine ⟨fun hsame _ => horder hsame hgranted, fun hoverlap => ?_⟩
  rw [overlap_right_continues e.continues_writingBack] at hoverlap
  exact absurd (hhazard hoverlap) hgranted

theorem State.OrderLegal.advance {s : State} (h : s.OrderLegal) (k : Nat) :
    (s.advance k).OrderLegal := by
  by_cases hreset : s.resetAsserted = true
  · rw [State.advance_asserted hreset]
    exact h
  rw [State.OrderLegal, State.advance_entries (Bool.eq_false_iff.mpr hreset), List.pairwise_map]
  exact h.imp fun hab => grantedInOrder_of_continues hab (Entry.continues_aged ..)
    (Entry.continues_aged ..) rfl rfl

theorem State.Change.orderLegal {s t : State} (hchange : s.Change t) (hqueue : s.QueueLegal)
    (hport : s.PortLegal) (h : s.OrderLegal) : t.OrderLegal := by
  cases hchange with
  | unseen hagrees => exact h.congr (by rw [hagrees.queue])
  | pass _ => exact h.advance _
  | enters kind _ _ _ _ _ =>
    exact h.append (congrArg AdmissionQueue.entries (State.enqueue_queue ..)) rfl
  | admitMonitor kind _ _ _ =>
    exact h.append (congrArg AdmissionQueue.entries (State.enqueue_queue ..)) rfl
  | completeWaiting o _ _ _ => exact h.complete _ o [] false
  | grant he _ horder hhazard _ _ _ => exact h.grant hqueue he horder hhazard rfl
  | fetchWrites haccess f =>
    exact h.fetchWrites hqueue haccess.mem (hport.access_granted hqueue haccess) rfl
  | @plainDone e n p _ _ o data wrote =>
    exact State.OrderLegal.complete (s := s.setTag n .free) h e o data wrote
  | @accessEnds e n p _ o data wrote =>
    exact State.OrderLegal.complete (s := (s.setTag n .free).releaseSlot e.id) h e o data wrote
  | @timesOut e n p _ o =>
    exact (State.OrderLegal.complete (s := (s.setTag n .quarantined).releaseSlot e.id) h e o []
      false).congr (by rw [State.stallIfNoTag_queue])
  | orphanTimesOut _ => exact h.congr (by rw [State.stallIfNoTag_queue]; rfl)
  | takeEvent _ _ =>
    rw [State.emptyIfEdge_eq]
    exact h
  | _ => exact h

theorem State.asserted_orderLegal (s : State) : s.asserted.OrderLegal := List.Pairwise.nil

end Sys2Proof.Machine
end

section
/-! SUPPORT. The laws that every step keeps: each law goes through the small changes, HARD_RESET and the
release of RESETN. -/

namespace Sys2Proof.Machine

open Sys2Proof

/-! ### The laws at reset, by HARD_RESET and by the release -/

theorem State.reset_queueLegal : State.reset.QueueLegal :=
  .of_empty rfl (fun r g => by simp [State.tagIsBusy, State.reset]) nofun nofun

theorem State.reset_portLegal : State.reset.PortLegal :=
  .of_idle rfl (fun n => by simp [State.reset]) rfl rfl

theorem State.asserted_tablesLegal (s : State) : s.asserted.TablesLegal :=
  State.reset_tablesLegal.congr rfl rfl

theorem State.TablesLegal.released {s : State} (h : s.TablesLegal) : s.released.TablesLegal :=
  h.congr rfl rfl

theorem State.QueueLegal.released {s : State} (h : s.QueueLegal) : s.released.QueueLegal :=
  h.congr rfl rfl rfl rfl

theorem State.PortLegal.released {s : State} (h : s.PortLegal) : s.released.PortLegal :=
  h.congr rfl rfl rfl rfl rfl

/-! ### Every step -/

theorem step_queueLegal {s t : State} (h : s.QueueLegal) (hstep : step s = .next t) : t.QueueLegal :=
  step_keeps (fun _ _ hchange => hchange.queueLegal) (fun _ => .asserted) (fun _ => .released) h hstep

/-- Windows, cursors and settings. -/
structure State.ConfigLegal (s : State) : Prop where
  tables : s.TablesLegal
  settings : s.settings.Legal

/-- Tables and queue, and the place of every entry that they bring about. -/
structure State.PlacedLegal (s : State) : Prop where
  tables : s.TablesLegal
  queue : s.QueueLegal
  placed : s.EntriesPlaced

/-- Queue and port, and the order of grants that they bring about. -/
structure State.GrantsLegal (s : State) : Prop where
  queue : s.QueueLegal
  port : s.PortLegal
  order : s.OrderLegal

theorem step_configLegal {s t : State} (h : s.ConfigLegal) (hstep : step s = .next t) :
    t.ConfigLegal :=
  step_keeps
    (fun _ _ hchange hs => ⟨hchange.tablesLegal hs.tables, hchange.settingsLegal hs.settings⟩)
    (fun s _ => ⟨s.asserted_tablesLegal, Settings.reset_legal⟩)
    (fun _ hs => ⟨hs.tables.released, hs.settings⟩) h hstep

theorem step_placedLegal {s t : State} (h : s.PlacedLegal) (hstep : step s = .next t) :
    t.PlacedLegal :=
  step_keeps
    (fun _ _ hchange hs => ⟨hchange.tablesLegal hs.tables, hchange.queueLegal hs.queue,
      hchange.entriesPlaced hs.tables hs.queue hs.placed⟩)
    (fun s hs => ⟨s.asserted_tablesLegal, hs.queue.asserted, nofun⟩)
    (fun _ hs => ⟨hs.tables.released, hs.queue.released, hs.placed⟩) h hstep

theorem step_classesLegal {s t : State} (h : s.QueueLegal ∧ s.ClassesLegal)
    (hstep : step s = .next t) : t.QueueLegal ∧ t.ClassesLegal :=
  step_keeps (P := fun u => u.QueueLegal ∧ u.ClassesLegal)
    (fun _ _ hchange ⟨hqueue, hclasses⟩ =>
      ⟨hchange.queueLegal hqueue, hchange.classesLegal hqueue hclasses⟩)
    (fun _ ⟨hqueue, _⟩ => ⟨hqueue.asserted, State.reset_classesLegal⟩)
    (fun _ ⟨hqueue, hclasses⟩ => ⟨hqueue.released, hclasses⟩) h hstep

theorem step_portLegal {s t : State} (h : s.QueueLegal ∧ s.PortLegal) (hstep : step s = .next t) :
    t.QueueLegal ∧ t.PortLegal :=
  step_keeps (P := fun u => u.QueueLegal ∧ u.PortLegal)
    (fun _ _ hchange ⟨hqueue, hport⟩ => ⟨hchange.queueLegal hqueue, hchange.portLegal hqueue hport⟩)
    (fun s ⟨hqueue, _⟩ => ⟨hqueue.asserted, s.asserted_portLegal⟩)
    (fun _ ⟨hqueue, hport⟩ => ⟨hqueue.released, hport.released⟩) h hstep

theorem step_grantsLegal {s t : State} (h : s.GrantsLegal) (hstep : step s = .next t) :
    t.GrantsLegal :=
  step_keeps
    (fun _ _ hchange hs => ⟨hchange.queueLegal hs.queue, hchange.portLegal hs.queue hs.port,
      hchange.orderLegal hs.queue hs.port hs.order⟩)
    (fun s hs => ⟨hs.queue.asserted, s.asserted_portLegal, s.asserted_orderLegal⟩)
    (fun _ hs => ⟨hs.queue.released, hs.port.released, hs.order.congr rfl⟩) h hstep

theorem step_eventsLegal {s t : State} (h : s.EventsLegal) (hstep : step s = .next t) :
    t.EventsLegal :=
  step_keeps (fun _ _ hchange => hchange.eventsLegal)
    (fun _ _ => State.reset_eventsLegal.congr rfl rfl rfl) (fun _ hs => hs.congr rfl rfl rfl) h hstep

/-- Settles O51: the checks of WINDOW-WRITE and CURSOR-SET, and the wrap of every advance, keep the
tables; a decoded request's words inherit the place from its window's record. -/
theorem tablesKept : Obligations.TablesKept := by
  refine ⟨fun s t htables hsettings hstep => ?_, fun s t htables hqueue hplaced hstep => ?_⟩
  · obtain ⟨ht, hs⟩ := step_configLegal ⟨htables, hsettings⟩ hstep
    exact ⟨ht, hs⟩
  · exact (step_placedLegal ⟨htables, hqueue, hplaced⟩ hstep).placed

/-- Settles O52: an entry comes only past the busy check and the depth check, and its pair is freed by
the completion that removes it. -/
theorem queueKept : Obligations.QueueKept := fun _ _ => step_queueLegal

/-- Settles O53: a grant charges at most eight words, a refill caps the credit. -/
theorem classesKept : Obligations.ClassesKept := fun _ _ hqueue hclasses hstep =>
  (step_classesLegal ⟨hqueue, hclasses⟩ hstep).2

/-- Settles O54: a grant takes a FREE tag of a RUNNING port, and an access gives up entry, tag and slot
together. -/
theorem portKept : Obligations.PortKept := fun _ _ hqueue hport hstep =>
  (step_portLegal ⟨hqueue, hport⟩ hstep).2

/-- Settles O55: the order and hazard conditions of a grant are what the pairs of the queue keep. -/
theorem orderKept : Obligations.OrderKept := fun _ _ hqueue hport horder hstep =>
  (step_grantsLegal ⟨hqueue, hport, horder⟩ hstep).order

/-- Settles O57: the last masked entry's completion ends the drain, and drain control refuses new ones. -/
theorem drainKept : Obligations.DrainKept := fun _ _ h hstep =>
  step_keeps (fun _ _ hchange => hchange.drainLegal) (fun s _ => s.asserted_drainLegal)
    (fun _ hs => hs.congr rfl rfl) h hstep

/-- Settles O58: time passes no further than the event that comes first. -/
theorem timersKept : Obligations.TimersKept := fun _ _ h hstep =>
  step_keeps (fun _ _ hchange => hchange.timersLegal) (fun s _ => s.asserted_timersLegal)
    (fun _ => .released) h hstep

end Sys2Proof.Machine
end

section
/-! SUPPORT. The level sources and IRQN after every step (R135, R139): a command ends with a judgement, or
changes nothing that a judgement reads. -/

namespace Sys2Proof.Machine

open Sys2Proof

/-- What a judgement reads stays. -/
structure State.JudgesAlike (s t : State) : Prop where
  events : t.events = s.events
  port : t.mem.port = s.mem.port
  cursors : t.cursors = s.cursors
  drain : t.drain.state = s.drain.state
  threshold : t.settings.threshold = s.settings.threshold
  depth : t.queue.entries.length = s.queue.entries.length

theorem State.JudgesAlike.refl (s : State) : s.JudgesAlike s := ⟨rfl, rfl, rfl, rfl, rfl, rfl⟩

theorem State.JudgesAlike.source {s t : State} (h : s.JudgesAlike t) (src : Source) :
    t.source src = s.source src :=
  State.source_eq_of_sources (congrArg EventController.sources h.events) src

theorem State.JudgesAlike.judgedPending {s t : State} (h : s.JudgesAlike t) (src : Source) :
    t.judgedPending src = s.judgedPending src := by
  cases src with
  | fault => simp only [State.judgedPending, h.port]
  | apertureEnd => simp only [State.judgedPending, State.exhausted, h.cursors]
  | drain => simp only [State.judgedPending, h.drain]
  | queueHigh => simp only [State.judgedPending, h.threshold, h.depth]
  | _ => exact congrArg SourceRecord.pending (h.source _)

theorem State.JudgesAlike.irqnWanted {s t : State} (h : s.JudgesAlike t) :
    t.irqnWanted = s.irqnWanted := by
  have habove : t.aboveFloor = s.aboveFloor :=
    funext fun src => by rw [State.aboveFloor, h.source, h.events, State.aboveFloor]
  rw [State.irqnWanted, habove, State.irqnWanted]

theorem State.EventsJudged.alike {s t : State} (hs : s.EventsJudged) (h : s.JudgesAlike t) :
    t.EventsJudged where
  pending src := by rw [h.source, h.judgedPending]; exact hs.pending src
  irqn := by rw [h.events, h.irqnWanted]; exact hs.irqn

/-! ### The commands that do not end with a judgement -/

theorem State.advance_judgesAlike (k : Nat) (s : State) : s.JudgesAlike (s.advance k) := by
  unfold State.advance
  split
  · exact .refl s
  · exact ⟨rfl, rfl, rfl, rfl, rfl, List.length_map _⟩

theorem State.issueWriteBack_judgesAlike (n : Fin 8) (rest : List (Fin 8)) (s : State) :
    s.JudgesAlike (s.issueWriteBack n rest) := by
  unfold State.issueWriteBack
  split
  · split <;> exact ⟨rfl, rfl, rfl, rfl, rfl, rfl⟩
  · exact ⟨rfl, rfl, rfl, rfl, rfl, rfl⟩
  · exact ⟨rfl, rfl, rfl, rfl, rfl, rfl⟩

theorem State.writeClass_judgesAlike (number level mode : Byte) (budget carry : Half) (s : State) :
    s.JudgesAlike (s.writeClass number level mode budget carry).1 := by
  unfold State.writeClass
  split
  · exact ⟨rfl, rfl, rfl, rfl, rfl, rfl⟩
  · exact .refl s

theorem State.rotate_judgesAlike (index mode value : Byte) (s : State) :
    s.JudgesAlike (s.rotate index mode value).1 := by
  unfold State.rotate
  split
  · exact .refl s
  · split_ifs
    · split
      · exact ⟨rfl, rfl, rfl, rfl, rfl, rfl⟩
      · exact .refl s
    · exact .refl s

theorem State.collectMonitor_judgesAlike (s : State) : s.JudgesAlike s.collectMonitor.1 := by
  unfold State.collectMonitor
  split_ifs
  · exact ⟨rfl, rfl, rfl, rfl, rfl, rfl⟩
  · exact .refl s

theorem ssnRises_judgesAlike {f : FrameState} {sent : Nat} {s t : State}
    (h : ssnRises f sent s = .next t) : s.JudgesAlike t := by
  unfold ssnRises at h
  split_ifs at h <;> cases h
  · exact ⟨rfl, rfl, rfl, rfl, rfl, rfl⟩
  · exact .refl _

theorem execFrameStart_judgesAlike {s t : State} (h : execFrameStart s = .next t) :
    s.JudgesAlike t := by
  unfold execFrameStart at h
  split_ifs at h <;> cases h
  · exact .refl _
  all_goals exact ⟨rfl, rfl, rfl, rfl, rfl, rfl⟩

theorem execEndOfReply_judgesAlike {s t : State} (h : execEndOfReply s = .next t) :
    s.JudgesAlike t := by
  unfold execEndOfReply at h
  split_ifs at h <;> cases h
  · exact ⟨rfl, rfl, rfl, rfl, rfl, rfl⟩
  · exact .refl _

theorem exec_resetnRelease_judgesAlike {s t : State} (h : exec .resetnRelease s = .next t) :
    s.JudgesAlike t := by
  cases hr : s.resetAsserted with
  | true =>
    rw [exec_resetnRelease_of_asserted hr] at h
    cases h
    exact ⟨rfl, rfl, rfl, rfl, rfl, rfl⟩
  | false =>
    rw [exec_resetnRelease_of_released hr] at h
    cases h
    exact .refl _

/-! ### The reset state -/

theorem State.reset_eventsJudged : State.reset.EventsJudged where
  pending src := by
    have hsource : State.reset.source src = _ := EventController.reset_source src
    have hexhausted : State.reset.exhausted = [] := by simp [State.exhausted, State.reset]
    cases src with
    | apertureEnd =>
      rw [State.judgedPending, hexhausted, hsource]
      rfl
    | _ => rfl
  irqn := rfl

theorem State.asserted_judgesAlike (s : State) : State.reset.JudgesAlike s.asserted :=
  ⟨rfl, rfl, rfl, rfl, rfl, rfl⟩

/-! ### The commands that end with a judgement -/

theorem State.takeFront_eventsJudged {s : State} (h : s.EventsJudged) : s.takeFront.EventsJudged := by
  unfold State.takeFront
  split
  · exact h
  · split_ifs
    · exact State.eventsJudged_judge _
    · exact h

theorem execGrant_eventsJudged {ready : Bool} {s t : State} (h : s.EventsJudged)
    (hexec : execGrant ready s = .next t) : t.EventsJudged := by
  unfold execGrant at hexec
  dsimp only at hexec
  split at hexec <;> cases hexec
  · exact State.eventsJudged_judge _
  all_goals exact h.alike ⟨rfl, rfl, rfl, rfl, rfl, rfl⟩

theorem execWriteBackIssue_eventsJudged {ready : Bool} {s t : State} (h : s.EventsJudged)
    (hexec : execWriteBackIssue ready s = .next t) : t.EventsJudged := by
  have hs : (s.sampleReady ready).EventsJudged := h.alike ⟨rfl, rfl, rfl, rfl, rfl, rfl⟩
  unfold execWriteBackIssue at hexec
  dsimp only at hexec
  split at hexec
  · cases hexec
    exact hs
  · split_ifs at hexec <;> cases hexec
    · exact hs.alike (State.issueWriteBack_judgesAlike ..)
    · exact hs

theorem execMemoryAnswer_eventsJudged {n : Fin 8} {outcome : AnswerOutcome} {data : List Word}
    {s t : State} (h : s.EventsJudged) (hexec : execMemoryAnswer n outcome data s = .next t) :
    t.EventsJudged := by
  unfold execMemoryAnswer at hexec
  split_ifs at hexec
  · cases hexec
    exact h
  · split at hexec
    · cases hexec
      exact State.eventsJudged_judge _
    · cases hexec
      exact h.alike ⟨rfl, rfl, rfl, rfl, rfl, rfl⟩
    · cases hexec
      exact State.eventsJudged_judge _
    · split at hexec <;> cases hexec
      · exact State.eventsJudged_judge _
      · exact h.alike ⟨rfl, rfl, rfl, rfl, rfl, rfl⟩

/-- What an expiry does once its time has come ends with a judgement, or does nothing. -/
theorem expiryEffect_eventsJudged (i : Instr) {s : State} (h : s.EventsJudged) :
    (expiryEffect i s).EventsJudged := by
  cases i with
  | holdTimerExpiry requester tag =>
    simp only [expiryEffect, State.holdExpired]
    split
    · exact State.eventsJudged_judge _
    · exact h
  | responseTimerExpiry n =>
    simp only [expiryEffect, State.timeOut]
    split
    · split <;> exact State.eventsJudged_judge _
    · exact h
    · exact h
  | intervalExpiry => exact State.eventsJudged_judge _
  | endOfRecovery => exact State.eventsJudged_judge _
  | drainTimerExpiry => exact State.eventsJudged_judge _
  | _ => exact h

theorem exec_expiry_eventsJudged {i : Instr} (hi : isExpiry i = true) {s t : State}
    (h : s.EventsJudged) (hexec : exec i s = .next t) : t.EventsJudged := by
  rw [exec_expiry hi] at hexec
  cases hexec
  rcases expire_cases (s.expiryLeft i) (expiryEffect i) s with hsame | ⟨k, -, -, hgone⟩
  · rw [hsame]
    exact h
  · rw [hgone]
    exact expiryEffect_eventsJudged i (h.alike (State.advance_judgesAlike k s))

/-- A frame's command is judged when its effect is. -/
theorem serve_eventsJudged {f : State → State × Reply} {s t : State}
    (hf : (f s).1.EventsJudged) (h : s.EventsJudged) (hserve : serve s f = .next t) :
    t.EventsJudged := by
  rcases serve_next hserve with ⟨-, rfl⟩ | ⟨-, rfl⟩
  · exact hf.alike ⟨rfl, rfl, rfl, rfl, rfl, rfl⟩
  · exact h

theorem serve_eventsJudged_of_alike {f : State → State × Reply} {s t : State}
    (hf : s.JudgesAlike (f s).1) (h : s.EventsJudged) (hserve : serve s f = .next t) :
    t.EventsJudged := serve_eventsJudged (h.alike hf) h hserve

theorem serve_eventsJudged_of_fst {f : State → State × Reply} {s t : State}
    (hf : (f s).1 = s) (h : s.EventsJudged) (hserve : serve s f = .next t) :
    t.EventsJudged := serve_eventsJudged (by rw [hf]; exact h) h hserve

theorem State.writeWindow_eventsJudged (index : Byte) (b : WindowBytes) {s : State}
    (h : s.EventsJudged) : (s.writeWindow index b).1.EventsJudged := by
  unfold State.writeWindow
  split
  · exact h
  · split_ifs
    · exact State.eventsJudged_judge _
    · split
      · exact State.eventsJudged_judge _
      · exact h

theorem State.placeCursor_eventsJudged (index : Byte) (row column : Half) {s : State}
    (h : s.EventsJudged) : (s.placeCursor index row column).1.EventsJudged := by
  unfold State.placeCursor
  split
  · exact h
  · split_ifs
    · exact State.eventsJudged_judge _
    · exact h

theorem State.writeSettings_eventsJudged (b : SettingsBytes) {s : State} (h : s.EventsJudged) :
    (s.writeSettings b).1.EventsJudged := by
  unfold State.writeSettings
  split
  · exact State.eventsJudged_judge _
  · exact h

theorem State.monitorAccess_eventsJudged (address : Word) (kind : EntryKind) {s : State}
    (h : s.EventsJudged) : (s.monitorAccess address kind).1.EventsJudged := by
  unfold State.monitorAccess
  split_ifs
  · exact h
  · exact h
  · exact State.eventsJudged_judge _

theorem State.setupEvent_eventsJudged (source level : Byte) {s : State} (h : s.EventsJudged) :
    (s.setupEvent source level).1.EventsJudged := by
  unfold State.setupEvent
  split
  · split_ifs
    · exact State.eventsJudged_judge _
    · exact h
  · exact h

theorem State.takeEvent_eventsJudged {s : State} (h : s.EventsJudged) :
    s.takeEvent.1.EventsJudged := by
  unfold State.takeEvent
  split_ifs
  · exact h
  · split
    · exact h
    · exact State.eventsJudged_judge _

theorem State.restoreFloor_eventsJudged {s : State} (h : s.EventsJudged) :
    s.restoreFloor.1.EventsJudged := by
  unfold State.restoreFloor
  split
  · exact h
  · exact State.eventsJudged_judge _

theorem State.writeFloor_eventsJudged (value : Byte) {s : State} (h : s.EventsJudged) :
    (s.writeFloor value).1.EventsJudged := by
  unfold State.writeFloor
  split_ifs
  · exact State.eventsJudged_judge _
  · exact h

theorem State.startDrain_eventsJudged (mask : Byte) {s : State} (h : s.EventsJudged) :
    (s.startDrain mask).1.EventsJudged := by
  unfold State.startDrain
  split_ifs
  · exact h
  · exact h
  · exact State.eventsJudged_judge _
  · exact State.eventsJudged_judge _

theorem State.resume_eventsJudged {s : State} (h : s.EventsJudged) : s.resume.1.EventsJudged := by
  unfold State.resume
  split_ifs
  · exact h
  · exact State.eventsJudged_judge _

theorem State.faultClear_eventsJudged {s : State} (h : s.EventsJudged) :
    s.faultClear.1.EventsJudged := by
  unfold State.faultClear
  split_ifs
  · exact State.eventsJudged_judge _
  · exact h

theorem State.restoreDefaults_eventsJudged {s : State} (h : s.EventsJudged) :
    s.restoreDefaults.1.EventsJudged := by
  unfold State.restoreDefaults
  split_ifs
  · exact State.eventsJudged_judge _
  · exact h

/-! ### Every command, every step -/

theorem exec_eventsJudged {i : Instr} {s t : State} (hs : s.EventsJudged)
    (h : exec i s = .next t) : t.EventsJudged := by
  cases i with
  | requestTake o =>
    simp only [exec, execRequestTake] at h
    split_ifs at h
    cases h
    exact State.takeFront_eventsJudged (hs.alike ⟨rfl, rfl, rfl, rfl, rfl, rfl⟩)
  | grant ready => exact execGrant_eventsJudged hs h
  | writeBackIssue ready => exact execWriteBackIssue_eventsJudged hs h
  | memoryAnswer n outcome data => exact execMemoryAnswer_eventsJudged hs h
  | holdTimerExpiry requester tag => exact exec_expiry_eventsJudged rfl hs h
  | responseTimerExpiry n => exact exec_expiry_eventsJudged rfl hs h
  | intervalExpiry => exact exec_expiry_eventsJudged rfl hs h
  | endOfRecovery => exact exec_expiry_eventsJudged rfl hs h
  | drainTimerExpiry => exact exec_expiry_eventsJudged rfl hs h
  | hardReset =>
    cases h
    exact State.reset_eventsJudged.alike (State.asserted_judgesAlike s)
  | resetnRelease => exact hs.alike (exec_resetnRelease_judgesAlike h)
  | frameStart => exact hs.alike (execFrameStart_judgesAlike h)
  | frameDiscard => exact hs.alike (ssnRises_judgesAlike h)
  | replyLost sent => exact hs.alike (ssnRises_judgesAlike h)
  | unknownCommand code =>
    simp only [exec, execUnknownCommand] at h
    split_ifs at h
    exact serve_eventsJudged_of_fst rfl hs h
  | status => exact serve_eventsJudged_of_fst rfl hs h
  | queueRead position => exact serve_eventsJudged_of_fst (State.readQueue_fst ..) hs h
  | windowWrite index b => exact serve_eventsJudged (State.writeWindow_eventsJudged _ _ hs) hs h
  | windowRead index => exact serve_eventsJudged_of_fst (State.readWindow_fst ..) hs h
  | cursorSet index row column =>
    exact serve_eventsJudged (State.placeCursor_eventsJudged _ _ _ hs) hs h
  | rotate index mode value =>
    exact serve_eventsJudged_of_alike (State.rotate_judgesAlike ..) hs h
  | classWrite number level mode budget carry =>
    exact serve_eventsJudged_of_alike (State.writeClass_judgesAlike ..) hs h
  | classRead number => exact serve_eventsJudged_of_fst (State.readClass_fst ..) hs h
  | settingsWrite b => exact serve_eventsJudged (State.writeSettings_eventsJudged _ hs) hs h
  | settingsRead => exact serve_eventsJudged_of_fst rfl hs h
  | monitorRead address => exact serve_eventsJudged (State.monitorAccess_eventsJudged _ _ hs) hs h
  | monitorWrite address data =>
    exact serve_eventsJudged (State.monitorAccess_eventsJudged _ _ hs) hs h
  | monitorResult => exact serve_eventsJudged_of_alike (State.collectMonitor_judgesAlike s) hs h
  | eventSetup source level => exact serve_eventsJudged (State.setupEvent_eventsJudged _ _ hs) hs h
  | eventTake => exact serve_eventsJudged (State.takeEvent_eventsJudged hs) hs h
  | eventRestore => exact serve_eventsJudged (State.restoreFloor_eventsJudged hs) hs h
  | eventFloor value => exact serve_eventsJudged (State.writeFloor_eventsJudged _ hs) hs h
  | eventClear mask => exact serve_eventsJudged (State.eventsJudged_judge _) hs h
  | eventPeek => exact serve_eventsJudged_of_fst rfl hs h
  | flush mask => exact serve_eventsJudged (State.eventsJudged_judge _) hs h
  | drain mask => exact serve_eventsJudged (State.startDrain_eventsJudged _ hs) hs h
  | resume => exact serve_eventsJudged (State.resume_eventsJudged hs) hs h
  | faultClear => exact serve_eventsJudged (State.faultClear_eventsJudged hs) hs h
  | defaults => exact serve_eventsJudged (State.restoreDefaults_eventsJudged hs) hs h
  | frameEnd => exact hs.alike (ssnRises_judgesAlike h)
  | endOfReply => exact hs.alike (execEndOfReply_judgesAlike h)

theorem step_eventsJudged {s t : State} (hs : s.EventsJudged) (h : step s = .next t) :
    t.EventsJudged := by
  rcases step_next h with ⟨i, rest, -, hexec⟩ | ⟨i, -, hexec⟩ | ⟨-, rfl⟩
  · have hrest : State.EventsJudged { s with pending := rest } :=
      hs.alike ⟨rfl, rfl, rfl, rfl, rfl, rfl⟩
    exact exec_eventsJudged hrest hexec
  · have hcounted : s.countFree.EventsJudged := hs.alike ⟨rfl, rfl, rfl, rfl, rfl, rfl⟩
    exact exec_eventsJudged hcounted hexec
  · exact hs.alike (State.advance_judgesAlike 1 s)

/-- Settles O56: the records by the small changes, the judgement by the commands. -/
theorem eventsKept : Obligations.EventsKept :=
  ⟨fun _ _ => step_eventsLegal, fun _ _ => step_eventsJudged⟩

end Sys2Proof.Machine
end

section
/-! SUPPORT. RESETN (R3, R45, R81 to R83): while it is asserted no command but its release changes a block,
and MRSTN follows the port state and RESETN. -/

namespace Sys2Proof.Machine

open Sys2Proof

/-! ### While RESETN is asserted -/

/-- The states in which RESETN is asserted and every block is in its reset state. -/
def State.Held (s : State) : Prop := s.resetAsserted = true ∧ s.asserted = s

theorem State.asserted_held (s : State) : s.asserted.Held := ⟨rfl, rfl⟩

theorem State.Held.eq {s : State} (h : s.Held) : s = s.asserted := h.2.symm

theorem State.Held.resetHeld {s : State} (h : s.Held) : s.ResetHeld := fun _ => h.2

theorem State.Held.mrstnLegal {s : State} (h : s.Held) : s.MrstnLegal := by
  rw [h.eq]
  exact iff_of_true rfl (.inr rfl)

/-- The release of a held part leaves MRSTN released on a RUNNING port. -/
theorem State.Held.released_mrstnLegal {s : State} (h : s.Held) : s.released.MrstnLegal := by
  rw [h.eq]
  exact iff_of_false nofun (fun hor => by rcases hor with hor | hor <;> cases hor)

theorem State.advance_held {s : State} (h : s.Held) (k : Nat) : s.advance k = s := if_pos h.1

/-- No timer runs (R55, R83, R150). -/
theorem State.asserted_expiryLeft (s : State) (i : Instr) : s.asserted.expiryLeft i = none := by
  cases i with
  | responseTimerExpiry n => simp [State.expiryLeft, State.asserted, State.reset, TagRecord.responseLeft]
  | _ => rfl

theorem exec_expiry_asserted {i : Instr} (hi : isExpiry i = true) {s t : State}
    (h : exec i s.asserted = .next t) : t.Held := by
  rw [exec_expiry hi, State.asserted_expiryLeft] at h
  cases h
  exact s.asserted_held

/-- No request is taken (R25). -/
theorem execRequestTake_asserted {o : Option Request} {s t : State}
    (h : execRequestTake o s.asserted = .next t) : t.Held := by
  have hwaits : (s.asserted.offer o).takeFront = (s.offer o).asserted := by
    unfold State.takeFront
    split
    · rfl
    · exact if_neg nofun
  unfold execRequestTake at h
  split_ifs at h
  rw [hwaits] at h
  cases h
  exact (s.offer o).asserted_held

/-- SSN's level alone follows the edge (R168). -/
theorem ssnRises_asserted {f : FrameState} {sent : Nat} {s t : State}
    (h : ssnRises f sent s.asserted = .next t) : t.Held := by
  unfold ssnRises at h
  split_ifs at h <;> cases h
  · have hshifted : s.asserted.raiseSsn sent =
        State.asserted { s with service := { s.service with ssnLow := false } } := by
      simp [State.raiseSsn, State.asserted, State.reset]
    rw [hshifted]
    exact State.asserted_held _
  · exact s.asserted_held

theorem execFrameStart_asserted {s t : State} (h : execFrameStart s.asserted = .next t) :
    t.Held := by
  unfold execFrameStart at h
  split at h <;> cases h
  · exact s.asserted_held
  · exact State.asserted_held { s with service := { s.service with ssnLow := true } }

/-- While RESETN is asserted every command but its release leaves the blocks in their reset state; a
frame's command is ignored (R168). -/
theorem exec_asserted {i : Instr} (hi : i ≠ .resetnRelease) {s t : State}
    (h : exec i s.asserted = .next t) : t.Held := by
  cases i with
  | requestTake o => exact execRequestTake_asserted h
  | grant ready =>
    cases h
    exact (s.sampleReady ready).asserted_held
  | writeBackIssue ready =>
    cases h
    exact (s.sampleReady ready).asserted_held
  | memoryAnswer n outcome data =>
    cases h
    exact s.asserted_held
  | holdTimerExpiry requester tag => exact exec_expiry_asserted rfl h
  | responseTimerExpiry n => exact exec_expiry_asserted rfl h
  | intervalExpiry => exact exec_expiry_asserted rfl h
  | endOfRecovery => exact exec_expiry_asserted rfl h
  | drainTimerExpiry => exact exec_expiry_asserted rfl h
  | hardReset =>
    cases h
    exact s.asserted_held
  | resetnRelease => exact absurd rfl hi
  | frameStart => exact execFrameStart_asserted h
  | frameDiscard => exact ssnRises_asserted h
  | replyLost sent => exact ssnRises_asserted h
  | frameEnd => exact ssnRises_asserted h
  | endOfReply =>
    cases h
    exact s.asserted_held
  | unknownCommand code =>
    simp only [exec, execUnknownCommand] at h
    split_ifs at h
    cases h
    exact s.asserted_held
  | _ =>
    cases h
    exact s.asserted_held

theorem exec_held {i : Instr} {s t : State} (hs : s.Held) (h : exec i s = .next t) :
    t.Held ∨ t = s.released := by
  by_cases hi : i = .resetnRelease
  · subst hi
    rw [exec_resetnRelease_of_asserted hs.1] at h
    exact .inr (Host.Outcome.next.inj h).symm
  · rw [hs.eq] at h
    exact .inl (exec_asserted hi h)

/-! ### While RESETN is not asserted -/

/-- RESETN is not asserted, and MRSTN is, exactly while the port recovers. -/
structure State.Runs (s : State) : Prop where
  released : s.resetAsserted = false
  mrstn : s.mem.mrstn = true ↔ s.mem.port = .recovering

theorem State.Runs.resetHeld {s : State} (h : s.Runs) : s.ResetHeld := fun hreset =>
  nomatch h.released.symm.trans hreset

theorem State.Runs.mrstnLegal {s : State} (h : s.Runs) : s.MrstnLegal := by
  rw [State.MrstnLegal, h.mrstn, h.released]
  simp

theorem State.MrstnLegal.runs {s : State} (h : s.MrstnLegal) (hreset : s.resetAsserted = false) :
    s.Runs := ⟨hreset, h.trans (or_iff_left (by rw [hreset]; nofun))⟩

theorem State.Runs.congr {s t : State} (h : s.Runs) (hreset : t.resetAsserted = s.resetAsserted)
    (hmrstn : t.mem.mrstn = s.mem.mrstn) (hport : t.mem.port = s.mem.port) : t.Runs :=
  ⟨hreset.trans h.released, by rw [hmrstn, hport]; exact h.mrstn⟩

theorem State.Runs.complete {s : State} (h : s.Runs) (e : Entry) (o : UpOutcome) (data : List Word)
    (wrote : Bool) : (s.complete e o data wrote).Runs := by
  have hframe := s.complete_frame e o data wrote
  exact h.congr hframe.resetAsserted (congrArg MemoryPort.mrstn hframe.mem)
    (congrArg MemoryPort.port hframe.mem)

/-- A port that has just stalled was RUNNING, its MRSTN released. -/
theorem State.Runs.stallIfNoTag {s : State} (h : s.Runs) : s.stallIfNoTag.Runs := by
  unfold State.stallIfNoTag
  split_ifs with hall
  · refine ⟨h.released, iff_of_false (fun hmrstn => ?_) nofun⟩
    exact nomatch hall.1.symm.trans (h.mrstn.mp hmrstn)
  · exact h

theorem State.Change.runs {s t : State} (hchange : s.Change t) (h : s.Runs) : t.Runs := by
  cases hchange with
  | unseen hagrees => exact h.congr hagrees.resetAsserted hagrees.mrstn hagrees.port
  | @pass k _ =>
    unfold State.advance
    split <;> exact h.congr rfl rfl rfl
  | completeWaiting o _ _ _ => exact h.complete ..
  | @plainDone e n _ _ _ o data wrote =>
    have hfreed : (s.setTag n .free).Runs := h.congr rfl rfl rfl
    exact hfreed.complete ..
  | @accessEnds e n _ _ o data wrote =>
    have hfreed : ((s.setTag n .free).releaseSlot e.id).Runs := h.congr rfl rfl rfl
    exact hfreed.complete ..
  | @timesOut e n _ _ o =>
    have hlost : ((s.setTag n .quarantined).releaseSlot e.id).Runs := h.congr rfl rfl rfl
    exact (hlost.complete ..).stallIfNoTag
  | @orphanTimesOut n _ =>
    have hlost : (s.setTag n .quarantined).Runs := h.congr rfl rfl rfl
    exact hlost.stallIfNoTag
  | recover _ => exact ⟨h.released, iff_of_false nofun nofun⟩
  | clearFault _ => exact ⟨h.released, iff_of_true rfl rfl⟩
  | takeEvent _ _ =>
    rw [State.emptyIfEdge_eq]
    exact h.congr rfl rfl rfl
  | _ => exact h.congr rfl rfl rfl

/-! ### Every step -/

/-- RESETN holds every block in its reset state, or is not asserted. -/
theorem State.held_or_runs {s : State} (hheld : s.ResetHeld) (hmrstn : s.MrstnLegal) :
    s.Held ∨ s.Runs := by
  cases hreset : s.resetAsserted with
  | true => exact .inl ⟨hreset, hheld hreset⟩
  | false => exact .inr (hmrstn.runs hreset)

theorem exec_held_or_runs {i : Instr} {s t : State} (hs : s.Held ∨ s.Runs)
    (h : exec i s = .next t) : t.Held ∨ t.Runs := by
  rcases hs with hheld | hruns
  · rcases exec_held hheld h with ht | rfl
    · exact .inl ht
    · exact .inr (hheld.released_mrstnLegal.runs rfl)
  · rcases exec_cases h with rfl | ⟨hreset, -⟩ | hchanges
    · exact .inl s.asserted_held
    · exact nomatch hruns.released.symm.trans hreset
    · exact .inr (hchanges.keeps (fun _ _ hchange => hchange.runs) hruns)

theorem State.Held.pending {s : State} (h : s.Held) (rest : List Instr) :
    State.Held { s with pending := rest } := by
  rw [h.eq]
  exact State.asserted_held { s with pending := rest }

theorem State.Held.countFree {s : State} (h : s.Held) : s.countFree.Held := by
  rw [h.eq]
  exact s.countFree.asserted_held

theorem step_held_or_runs {s t : State} (hs : s.Held ∨ s.Runs) (h : step s = .next t) :
    t.Held ∨ t.Runs := by
  rcases step_next h with ⟨i, rest, -, hexec⟩ | ⟨i, -, hexec⟩ | ⟨hdue, rfl⟩
  · exact exec_held_or_runs
      (hs.imp (fun hheld => hheld.pending rest) fun hruns => hruns.congr rfl rfl rfl) hexec
  · exact exec_held_or_runs (hs.imp State.Held.countFree fun hruns => hruns.congr rfl rfl rfl) hexec
  · refine hs.imp (fun hheld => ?_) (State.Change.pass ?_).runs
    · rw [State.advance_held hheld]
      exact hheld
    · exact State.nextWithin_one_of_due_eq_nil hdue

/-- Settles O59: RESETN asserted holds the reset state until the release; without it MRSTN is moved by
FAULT-CLEAR and the end of recovery, with the port state. -/
theorem resetHeldKept : Obligations.ResetHeldKept := by
  intro s t hheld hmrstn hstep
  rcases step_held_or_runs (s.held_or_runs hheld hmrstn) hstep with ht | ht
  · exact ⟨ht.resetHeld, ht.mrstnLegal⟩
  · exact ⟨ht.resetHeld, ht.mrstnLegal⟩

/-- Settles O50: the laws at reset, block by block. -/
theorem lawsHoldAtReset : Obligations.LawsHoldAtReset := by
  have hruns : State.reset.Runs := ⟨rfl, iff_of_false nofun nofun⟩
  refine ⟨State.reset_tablesLegal, Settings.reset_legal, State.reset_queueLegal, nofun,
    State.reset_classesLegal, State.reset_portLegal, List.Pairwise.nil, State.reset_eventsLegal,
    State.reset_eventsJudged, ?_, ?_, hruns.resetHeld, hruns.mrstnLegal⟩
  · exact State.reset.asserted_drainLegal.congr rfl rfl
  · exact State.reset.asserted_timersLegal.of_from (.of_eq rfl rfl rfl rfl rfl rfl)

end Sys2Proof.Machine
end

section
/-! SUPPORT. REQUEST_TAKE (R18 to R28, R108, R109): what becomes of the request at the front of the
channel. -/

namespace Sys2Proof.Machine

open Sys2Proof

/-! ### Waiting on the channel (R25) -/

theorem exec_requestTake_of_wf {o : Option Request} (hwf : o.all Request.wf = true) (s : State) :
    exec (.requestTake o) s = .next (s.offer o).takeFront := if_pos hwf

theorem State.takeFront_of_not_upReady {s : State} (h : s.upReady = false) : s.takeFront = s := by
  unfold State.takeFront
  split
  · rfl
  · exact if_neg (Bool.eq_false_iff.mp h)

theorem State.takeFront_of_offered_nil {s : State} (h : s.upstream.offered = []) : s.takeFront = s := by
  unfold State.takeFront
  rw [h]

/-- With nothing on the channel and nothing offered, nothing comes to stand on it. -/
theorem State.offer_of_nil {s : State} {o : Option Request}
    (h : s.upstream.offered ++ o.toList = []) : s.offer o = s := by
  rw [State.offer, (List.append_eq_nil_iff.mp h).2, List.append_nil]

/-- Settles O5. -/
theorem requestsWaitWhileNotReady : Obligations.RequestsWaitWhileNotReady := by
  intro s o hwf
  refine ⟨s.upReady_iff, fun hnot => ?_, fun hnil => ?_⟩
  · have hnotOffered : (s.offer o).upReady = false := hnot
    rw [exec_requestTake_of_wf hwf, State.takeFront_of_not_upReady hnotOffered]
    rfl
  · have hempty : (s.offer o).upstream.offered = [] := hnil
    rw [exec_requestTake_of_wf hwf, State.takeFront_of_offered_nil hempty, State.offer_of_nil hnil]

/-! ### The checks before the decoder (R26, R27) -/

theorem State.takeRequest_of_busy {s : State} {r : Request}
    (h : s.tagIsBusy r.requester r.tag = true) :
    s.takeRequest r = s.report .refused (tagInUseDetail r) := if_pos h

theorem State.takeRequest_of_draining {s : State} {r : Request}
    (hfree : s.tagIsBusy r.requester r.tag = false) (hstate : s.drain.state ≠ .none)
    (hmask : s.drain.mask.getLsbD r.requester.val = true) :
    s.takeRequest r = s.respondAtOnce r .draining [] := by
  unfold State.takeRequest
  rw [if_neg (Bool.eq_false_iff.mp hfree), if_pos ⟨hstate, hmask⟩]

/-- Settles O6: the tag check comes first, then the drain check. -/
theorem busyTagAndDrainAreCheckedFirst : Obligations.BusyTagAndDrainAreCheckedFirst := by
  intro s o r rest htakes
  rw [exec_requestTake_takes htakes]
  refine ⟨fun hbusy => ?_, fun hfree hstate hmask => ?_⟩
  · have hchannel : (s.channel rest).tagIsBusy r.requester r.tag = true := hbusy
    rw [State.takeRequest_of_busy hchannel]
    rfl
  · have hchannel : (s.channel rest).tagIsBusy r.requester r.tag = false := hfree
    rw [State.takeRequest_of_draining hchannel hstate hmask]
    rfl

/-! ### Refusals (R18) -/

/-- R4: the window and the class of a request's detail are those of its entry. -/
theorem State.originOf_ref (s : State) (r : Request) : (s.originOf r).ref = some (s.route r).1 := by
  unfold State.originOf State.route
  cases s.lookup r.address.toNat <;> rfl

theorem State.classOf_eq (s : State) (r : Request) : s.classOf r = (s.route r).2 := by
  unfold State.classOf State.route
  cases s.lookup r.address.toNat <;> rfl

theorem State.originOf_eq_default_iff (s : State) (r : Request) :
    s.originOf r = .default ↔ (s.route r).1 = .default := by
  unfold State.originOf State.route
  cases s.lookup r.address.toNat <;> simp

/-- The detail of a refusal, by the request's route. -/
theorem State.refusalDetail_eq (s : State) (r : Request) (code : Code) :
    s.refusalDetail r code =
      { requester := some (.bus r.requester), address := r.address,
        window := some (s.route r).1, cls := some (s.route r).2, code := some code } := by
  rw [State.refusalDetail, State.originOf_ref, State.classOf_eq]

theorem State.reportRefusal_denied_of_window {s : State} {r : Request}
    (h : (s.route r).1 ≠ .default) :
    s.reportRefusal r .denied = s.report .denied (s.refusalDetail r .permit) := by
  rw [State.reportRefusal, if_neg ((not_congr (s.originOf_eq_default_iff r)).mpr h)]

theorem State.reportRefusal_denied_of_default {s : State} {r : Request}
    (h : (s.route r).1 = .default) :
    s.reportRefusal r .denied = s.report .denied (s.refusalDetail r .routeDeny) := by
  rw [State.reportRefusal, if_pos ((s.originOf_eq_default_iff r).mpr h)]

theorem State.carryOut_refuse (s : State) (r : Request) (why : Refused) :
    s.carryOut r (.refuse why) = (s.reportRefusal r why).respondAtOnce r why.outcome [] := rfl

/-- Settles O12: each refusal by its kind, DENIED by the permit or by the route. -/
theorem refusedRequestsAreAnsweredAtOnce : Obligations.RefusedRequestsAreAnsweredAtOnce := by
  intro s o r rest hdecodes
  rw [exec_requestTake_decodes hdecodes]
  refine ⟨fun hverdict => ?_, fun hverdict => ?_, fun hverdict hwindow => ?_,
    fun hverdict hdefault => ?_, fun hverdict => ?_⟩ <;>
    rw [hverdict, State.carryOut_refuse]
  · rw [State.reportRefusal, State.refusalDetail_eq]
    rfl
  · rw [State.reportRefusal, State.refusalDetail_eq]
    rfl
  · have hchannel : ((s.channel rest).route r).1 ≠ .default := hwindow
    rw [State.reportRefusal_denied_of_window hchannel, State.refusalDetail_eq]
    rfl
  · have hchannel : ((s.channel rest).route r).1 = .default := hdefault
    rw [State.reportRefusal_denied_of_default hchannel, State.refusalDetail_eq]
    rfl
  · rfl

/-! ### Admission (R19, R20, R28, R29) -/

theorem plainKind_eq (r : Request) :
    plainKind r = if r.direction = .read then .plainRead else .plainWrite r.byteEnables r.data := by
  unfold plainKind
  cases r.direction <;> rfl

theorem bitKind_eq (r : Request) (op : BitOp) (bit : Fin 32) :
    bitKind r op bit = if r.direction = .read then .bitRead op bit else .bitWrite op bit := by
  unfold bitKind
  cases r.direction <;> rfl

/-- The part after the request at the front of the channel has been admitted. -/
def State.admitted (s : State) (r : Request) (rest : List Request) (origin : Origin) (physical : Word)
    (kind : EntryKind) : State :=
  { s with
    queue :=
      { entries := s.queue.entries ++
          [{ requester := .bus r.requester, tag := r.tag, upAddress := r.address, origin := origin,
             kind := kind, physical := physical, length := r.length, cls := (s.route r).2,
             stamp := s.queue.stamp, holdLimit := s.settings.holdLimit, holdTimer := 0,
             state := .waiting, dtag := none }],
        stamp := s.queue.stamp + 1 },
    upstream :=
      { s.upstream with
        offered := rest,
        tagBusy := s.upstream.tagBusy.set r.requester
          (s.upstream.tagBusy[r.requester].set r.tag true) } }

theorem State.channel_admitRequest (s : State) (rest : List Request) (r : Request) (kind : EntryKind)
    (physical : Word) :
    (s.channel rest).admitRequest r kind physical =
      s.admitted r rest (s.originOf r) physical kind := by
  have hclass : (s.channel rest).classOf r = (s.route r).2 := s.classOf_eq r
  rw [State.admitRequest, hclass]
  rfl

/-- R106, R107: a claimed cell is admitted, and its cursor advances or stays. -/
theorem State.carryOut_claim (s : State) (r : Request) (w : Fin 16) (physical : Word) (advance : Bool) :
    s.carryOut r (.claim w physical advance) =
      if advance then
        (s.admitRequest r (plainKind r) physical).setCursor w
          (some (advanceCursor s.windows[w] (s.cursorOf w)))
      else s.admitRequest r (plainKind r) physical := rfl

/-- Settles O13: a PLAIN entry, a bit operation, or a PLAIN entry on a claimed cell. -/
theorem admittedRequestsJoinTheQueue : Obligations.AdmittedRequestsJoinTheQueue := by
  intro s o r rest hdecodes
  rw [exec_requestTake_decodes hdecodes]
  refine ⟨fun physical hverdict => ?_, fun physical op bit hverdict => ?_,
    fun w physical hverdict => ?_, fun w physical hverdict => ?_⟩ <;> rw [hverdict]
  · rw [State.carryOut, State.channel_admitRequest, plainKind_eq]
    unfold State.originOf
    cases s.lookup r.address.toNat <;> rfl
  · rw [State.carryOut, State.channel_admitRequest, bitKind_eq]
    unfold State.originOf
    cases s.lookup r.address.toNat <;> rfl
  · rw [State.carryOut_claim, if_neg Bool.false_ne_true, State.channel_admitRequest, plainKind_eq]
    unfold State.originOf
    cases s.lookup r.address.toNat <;> rfl
  · rw [State.carryOut_claim, if_pos rfl, State.channel_admitRequest, plainKind_eq]
    unfold State.originOf
    cases s.lookup r.address.toNat <;> rfl

/-! ### POSITION and REWIND (R108, R109) -/

/-- Table 6-3. -/
theorem positionWord_eq (c : Cursor) :
    positionWord c =
      BitVec.ofNat 32 (c.row * 2 ^ 16 + c.column * 2 ^ 4 + if c.exhausted then 1 else 0) := rfl

/-- Settles O14. -/
theorem positionAndRewindAreAnsweredAtDecode :
    Obligations.PositionAndRewindAreAnsweredAtDecode := by
  intro s o r rest w hdecodes
  rw [exec_requestTake_decodes hdecodes]
  refine ⟨fun hverdict => ?_, fun hverdict => ?_⟩ <;> rw [hverdict, State.carryOut]
  · rw [positionWord_eq]
    rfl
  · rfl

end Sys2Proof.Machine
end

section
/-! SUPPORT. The arbiter's grant (R47, R52 to R54, R69 to R73) and the queue's own completions: the hold
timer (R37) and FLUSH (R41). -/

namespace Sys2Proof.Machine

open Sys2Proof

/-! ### The class charge (R52 to R54, Table 3-3) -/

theorem Entry.words_of_plain {e : Entry} (h : e.kind.isBit = false) : e.words = e.length := by
  unfold Entry.words
  cases hkind : e.kind with
  | plainRead => rfl
  | plainWrite be data => rfl
  | bitRead op bit => rw [hkind] at h; cases h
  | bitWrite op bit => rw [hkind] at h; cases h

/-- R96: a TEST counts one word, every other bit operation two. -/
theorem Entry.words_of_bit {e : Entry} {op : BitOp} {bit : Fin 32}
    (h : e.kind = .bitRead op bit ∨ e.kind = .bitWrite op bit) :
    e.words = if op = .test then 1 else 2 := by
  rcases h with h | h <;> rw [Entry.words, h]

theorem overruns_iff (c : ClassRecord) (k : Nat) :
    overruns c k = true ↔
      c.mode = .report ∧ c.budget.toNat < min 65535 (c.usedNow + k) ∧ c.overrun = false := by
  simp [overruns, usedAfter, and_assoc]

/-- Settles O21. -/
theorem classChargeAtGrant : Obligations.ClassChargeAtGrant := by
  refine ⟨fun e => ⟨Entry.words_of_plain, fun bit hkind => ?_, fun op bit hop hkind => ?_⟩,
    fun c k => ?_⟩
  · rw [Entry.words_of_bit hkind, if_pos rfl]
  · rw [Entry.words_of_bit hkind, if_neg hop]
  · exact ⟨rfl, rfl, overruns_iff c k, rfl, rfl, rfl, rfl, rfl, rfl⟩

/-! ### The choice (R70) -/

/-- The member that beats those before it and is not beaten by those after it is picked. -/
theorem pickMax_append_cons {α : Type} (key : α → Nat) {before after : List α} {a : α}
    (hbefore : ∀ b ∈ before, key b < key a) (hafter : ∀ b ∈ after, key b ≤ key a) :
    pickMax key (before ++ a :: after) = some a := by
  induction before with
  | nil =>
    rw [List.nil_append, pickMax]
    cases hpick : pickMax key after with
    | none => rfl
    | some b => exact if_neg (Nat.not_lt.mpr (hafter b (pickMax_mem key hpick)))
  | cons b rest ih =>
    rw [List.forall_mem_cons] at hbefore
    rw [List.cons_append, pickMax, ih hbefore.2]
    exact if_pos hbefore.1

/-- R70: the eligible entry of the highest level, the oldest of those at that level, is chosen. -/
theorem State.choice_eq_some {s : State} {before after : List Entry} {e : Entry}
    (hq : s.queue.entries = before ++ e :: after) (he : s.eligible e = true)
    (hbefore : ∀ b ∈ before, s.eligible b = true →
      s.classTable.classes[b.cls].level < s.classTable.classes[e.cls].level)
    (hafter : ∀ a ∈ after, s.eligible a = true →
      s.classTable.classes[a.cls].level ≤ s.classTable.classes[e.cls].level) :
    s.choice = some e := by
  rw [State.choice, hq, List.filter_append, List.filter_cons_of_pos he]
  refine pickMax_append_cons _ (fun b hb => ?_) fun a ha => ?_
  · obtain ⟨hb, heligible⟩ := List.mem_filter.mp hb
    exact hbefore b hb heligible
  · obtain ⟨ha, heligible⟩ := List.mem_filter.mp ha
    exact hafter a ha heligible

theorem State.choice_eq_none {s : State} (h : ∀ e ∈ s.queue.entries, s.eligible e = false) :
    s.choice = none := by
  rw [State.choice, pickMax_none, List.filter_eq_nil_iff]
  exact fun e he => Bool.eq_false_iff.mp (h e he)

/-! ### GRANT (R69 to R73) -/

theorem exec_grant_of_choice {s : State} {ready : Bool} {e : Entry} {n : Fin 8}
    (hopen : s.arbiterOpen = true) (hchoice : (s.sampleReady ready).choice = some e)
    (hfree : s.lowestFree = some n) :
    exec (.grant ready) s = .next ((s.sampleReady ready).grantEntry e n).judge := by
  have hopenSampled : (s.sampleReady ready).arbiterOpen = true := hopen
  have hfreeSampled : (s.sampleReady ready).lowestFree = some n := hfree
  simp only [exec, execGrant]
  rw [hopenSampled, if_pos rfl, hchoice, hfreeSampled]

theorem exec_grant_of_none {s : State} {ready : Bool}
    (h : s.arbiterOpen = true → (s.sampleReady ready).choice = none) :
    exec (.grant ready) s = .next (s.sampleReady ready) := by
  have hnone :
      (if (s.sampleReady ready).arbiterOpen then (s.sampleReady ready).choice else none) = none := by
    split_ifs with hopen
    · exact h hopen
    · rfl
  simp only [exec, execGrant]
  rw [hnone]

theorem State.arbiterOpen_iff (s : State) :
    s.arbiterOpen = true ↔ s.resetAsserted = false ∧ s.mem.writeBacks = [] := by
  simp [State.arbiterOpen]

/-- The occurrence of OVERRUN that the charge of an entry brings about (R54). -/
def State.overrunReported (e : Entry) (s : State) : State :=
  if overruns s.classTable.classes[e.cls] e.words then s.report .overrun (e.detail none) else s

theorem State.charge_eq (e : Entry) (s : State) :
    s.charge e =
      { s.overrunReported e with
        classTable :=
          { s.classTable with
            classes := s.classTable.classes.set e.cls
              (s.classTable.classes[e.cls].charged e.words) } } := by
  unfold State.charge State.overrunReported
  dsimp only
  split_ifs <;> rfl

/-- Besides the sources' records, the occurrence of OVERRUN writes nothing. -/
theorem State.overrunReported_eq (e : Entry) (s : State) :
    s.overrunReported e = { s with events := (s.overrunReported e).events } := by
  unfold State.overrunReported
  split_ifs <;> rfl

theorem State.sampleReady_overrunReported (e : Entry) (ready : Bool) (s : State) :
    (s.sampleReady ready).overrunReported e =
      { s.overrunReported e with mem := { s.mem with ready := ready } } := by
  by_cases hover : overruns s.classTable.classes[e.cls] e.words = true
  · have hsampled : (s.sampleReady ready).overrunReported e =
        (s.sampleReady ready).report .overrun (e.detail none) := if_pos hover
    rw [hsampled, State.overrunReported, if_pos hover]
    rfl
  · have hsampled : (s.sampleReady ready).overrunReported e = s.sampleReady ready := if_neg hover
    rw [hsampled, State.overrunReported, if_neg hover]
    rfl

/-- R72: what a grant writes. -/
theorem State.grantEntry_eq {s : State} {before after : List Entry} {e : Entry} (n : Fin 8)
    (hq : s.queue.entries = before ++ e :: after) (hnames : (s.queue.entries.map Entry.id).Nodup) :
    s.grantEntry e n =
      { s.overrunReported e with
        classTable :=
          { s.classTable with
            classes := s.classTable.classes.set e.cls
              (s.classTable.classes[e.cls].charged e.words) },
        slots := s.slots ++ (e.newSlot n).toList,
        mem :=
          { s.mem with
            tags := s.mem.tags.set n (.busy e.id e.kind.grantPhase s.issuedNow),
            requests := s.mem.requests ++ [e.request n] },
        queue := { s.queue with entries := before ++ e.granted n :: after } } := by
  obtain ⟨hbefore, hafter⟩ := ids_ne_of_nodup (hq ▸ hnames)
  have hentries :
      changeEntry e.id (Entry.granted n) s.queue.entries = before ++ e.granted n :: after := by
    rw [hq]
    exact changeEntry_split hbefore hafter _
  unfold State.grantEntry
  rw [State.charge_eq, State.overrunReported_eq, State.takeSlot_eq, ← hentries]
  rfl

/-- Settles O16. -/
theorem grantIssuesHighestLevelOldest : Obligations.GrantIssuesHighestLevelOldest := by
  intro s before after e n hreset hwaits hq hnames heligible hbefore hafter hfree hlowest
  have hopen : s.arbiterOpen = true := s.arbiterOpen_iff.mpr ⟨hreset, hwaits⟩
  have hchoice : (s.sampleReady true).choice = some e :=
    State.choice_eq_some (s := s.sampleReady true) hq heligible hbefore hafter
  have hlowestFree : s.lowestFree = some n := by
    rw [State.lowestFree, find?_finRange_eq_some_iff]
    exact ⟨by simpa using hfree, fun m hm => by simpa using hlowest m hm⟩
  rw [exec_grant_of_choice hopen hchoice hlowestFree,
    State.grantEntry_eq (s := s.sampleReady true) n hq hnames, State.sampleReady_overrunReported]
  obtain ⟨requester, tag, upAddress, origin, kind, physical, length, cls, stamp, holdLimit, holdTimer,
    state, dtag⟩ := e
  cases kind <;> rfl

/-- Settles O17: the arbiter is not open, or the entries' PORT condition fails, or none is eligible. -/
theorem noGrantWhenAConditionFails : Obligations.NoGrantWhenAConditionFails := by
  intro s ready hfails
  refine exec_grant_of_none fun hopen => State.choice_eq_none fun e he =>
    Bool.eq_false_iff.mpr fun heligible => ?_
  obtain ⟨hreset, hwaits⟩ := s.arbiterOpen_iff.mp hopen
  obtain ⟨-, -, -, -, -, -, hport⟩ := ((s.sampleReady ready).eligible_iff e).mp heligible
  obtain ⟨hrunning, hready, n, hfree⟩ := (s.sampleReady ready).portMet_iff.mp hport
  rcases hfails with hnot | hnot | hnot | hnot | hnot | hnot
  · exact hnot hrunning
  · exact nomatch hnot.symm.trans hready
  · exact hnot n hfree
  · exact hnot hwaits
  · exact nomatch hnot.symm.trans hreset
  · exact nomatch (hnot e he).symm.trans heligible

/-! ### HOLD_TIMER_EXPIRY (R37) -/

theorem State.holdExpired_eq {s : State} {id : EntryId} {e : Entry} (h : s.findEntry id = some e) :
    s.holdExpired id =
      ((s.complete e .holdTimeout [] false).report .holdTimeout
        (e.detail (some (.hold (s.holdReason e))))).judge := by
  rw [State.holdExpired, h]

/-- An expiry command whose timer is at its limit takes place now. -/
theorem exec_expiry_due {i : Instr} (hi : isExpiry i = true) {s : State}
    (h : s.expiryLeft i = some 0) : exec i s = .next (expiryEffect i s) := by
  rw [exec_expiry hi, h, expire_zero]

/-- An expiry command without a running timer does nothing. -/
theorem exec_expiry_idle {i : Instr} (hi : isExpiry i = true) {s : State}
    (h : s.expiryLeft i = none) : exec i s = .next s := by
  rw [exec_expiry hi, h]
  rfl

/-- Settles O18. -/
theorem holdTimerExpiryCompletesTheEntry : Obligations.HoldTimerExpiryCompletesTheEntry := by
  intro s requester tag
  refine ⟨fun e hfound hwaiting hlimit hexpired => ?_, fun hnone => ?_⟩
  · have hleft : e.holdLeft = some 0 :=
      Entry.holdLeft_eq_some_iff.mpr ⟨hwaiting, hlimit, by omega⟩
    have hdue : s.expiryLeft (.holdTimerExpiry requester tag) = some 0 := by
      rw [State.expiryLeft, hfound]
      exact hleft
    rw [exec_expiry_due rfl hdue, expiryEffect, State.holdExpired_eq hfound]
    rfl
  · refine exec_expiry_idle rfl ?_
    rw [State.expiryLeft, Option.bind_eq_none_iff]
    intro e hfound
    obtain ⟨he, hid⟩ := State.findEntry_some hfound
    cases hid
    exact if_neg (not_and_or.mpr ((hnone e he rfl rfl).imp id not_not_intro))

/-! ### FLUSH (R41) -/

/-- Entries complete with FLUSHED one after another. -/
def State.flushAll (goes : List Entry) (s : State) : State :=
  goes.foldl (fun t e => t.complete e .flushed [] false) s

/-- R23: the response of a flushed entry; the monitor requester has none. -/
def Entry.flushedResponse (e : Entry) : List Response :=
  match e.requester with
  | .bus n => [{ requester := n, tag := e.tag, outcome := .flushed, data := [] }]
  | .monitor => []

/-- What flushes leave alone, and what may become of the drain. -/
structure State.FlushFrame (s t : State) : Prop where
  frame : s.CompletionFrame t
  service : t.service = s.service
  source : ∀ src : Source, t.source src = s.source src
  drain : t.drain.state = s.drain.state ∨
    (s.drain.state = .draining ∨ s.drain.state = .stuck) ∧ t.drain.state = .drained

theorem State.FlushFrame.refl (s : State) : s.FlushFrame s := ⟨.refl s, rfl, fun _ => rfl, .inl rfl⟩

theorem State.FlushFrame.trans {s t u : State} (h : s.FlushFrame t) (k : t.FlushFrame u) :
    s.FlushFrame u where
  frame := h.frame.trans k.frame
  service := k.service.trans h.service
  source src := (k.source src).trans (h.source src)
  drain := by
    rcases h.drain with hsame | ⟨hwas, hdone⟩
    · rcases k.drain with hlast | ⟨hwas, hdone⟩
      · exact .inl (hlast.trans hsame)
      · exact .inr ⟨by rwa [hsame] at hwas, hdone⟩
    · rcases k.drain with hlast | ⟨hwait, -⟩
      · exact .inr ⟨hwas, hlast.trans hdone⟩
      · rw [hdone] at hwait
        exact absurd hwait (by decide)

/-- A flushed entry of a bus requester reports nothing. -/
theorem State.flushFrame_complete {e : Entry} {n : Fin 8} (hbus : e.requester = .bus n) (s : State) :
    s.FlushFrame (s.complete e .flushed [] false) where
  frame := s.complete_frame ..
  service := by
    rw [State.complete_service, State.deliver_bus hbus]
    rfl
  source src := by
    by_cases hsrc : src = .watch
    · subst hsrc
      exact State.source_watch_complete_of_unwatched (.inr (.inl rfl)) _
    · rw [State.source_complete_ne_watch hsrc, State.deliver_bus hbus]
      rfl
  drain := by
    by_cases hlast : (s.removeEntry e.id).LastMasked e.requester
    · rw [State.complete_drain_last _ _ _ hlast]
      exact .inr ⟨hlast.1, rfl⟩
    · rw [State.complete_drain_other _ _ _ hlast]
      exact .inl rfl

theorem State.flushFrame_flushAll {goes : List Entry} (hbus : ∀ e ∈ goes, ∃ n, e.requester = .bus n)
    (s : State) : s.FlushFrame (s.flushAll goes) := by
  induction goes generalizing s with
  | nil => exact .refl s
  | cons e rest ih =>
    rw [List.forall_mem_cons] at hbus
    obtain ⟨⟨n, hn⟩, hrest⟩ := hbus
    exact (State.flushFrame_complete hn s).trans (ih hrest _)

/-- R28, R41: the flushed entries leave, the others keep their order. -/
theorem State.flushAll_queue (goes : List Entry) (s : State) :
    (s.flushAll goes).queue =
      { s.queue with
        entries := s.queue.entries.filter fun x => decide (x.id ∉ goes.map Entry.id) } := by
  induction goes generalizing s with
  | nil => simp [State.flushAll]
  | cons e rest ih =>
    have hstep : s.flushAll (e :: rest) = (s.complete e .flushed [] false).flushAll rest := rfl
    rw [hstep, ih, State.complete_queue, List.filter_filter]
    simp [Bool.and_comm]

/-- R41: the responses go out in the order of the completions. -/
theorem State.flushAll_responses {goes : List Entry} (hbus : ∀ e ∈ goes, ∃ n, e.requester = .bus n)
    (s : State) :
    (s.flushAll goes).upstream.responses =
      s.upstream.responses ++ goes.flatMap Entry.flushedResponse := by
  induction goes generalizing s with
  | nil => simp [State.flushAll]
  | cons e rest ih =>
    rw [List.forall_mem_cons] at hbus
    obtain ⟨⟨n, hn⟩, hrest⟩ := hbus
    have hstep : s.flushAll (e :: rest) = (s.complete e .flushed [] false).flushAll rest := rfl
    have hfirst : (s.complete e .flushed [] false).upstream.responses =
        s.upstream.responses ++ e.flushedResponse := by
      rw [State.complete_upstream, State.deliver_bus hn, Entry.flushedResponse, hn]
      rfl
    rw [hstep, ih hrest, hfirst, List.flatMap_cons, List.append_assoc]

theorem State.mem_flushable_iff {s : State} {mask : Byte} {e : Entry} :
    e ∈ s.flushable mask ↔
      e ∈ s.queue.entries ∧ e.state = .waiting ∧ inMask mask e.requester = true := by
  simp [State.flushable]

theorem State.flushable_bus {s : State} {mask : Byte} {e : Entry} (he : e ∈ s.flushable mask) :
    ∃ n, e.requester = .bus n := by
  obtain ⟨-, -, hmask⟩ := State.mem_flushable_iff.mp he
  cases hr : e.requester with
  | bus n => exact ⟨n, rfl⟩
  | monitor => exact absurd hr (inMask_bus hmask)

/-- Names tell the entries apart, so exactly the flushable ones leave. -/
theorem State.flushAll_queue_of_nodup {s : State} (hnames : (s.queue.entries.map Entry.id).Nodup)
    (mask : Byte) :
    (s.flushAll (s.flushable mask)).queue =
      { s.queue with
        entries :=
          s.queue.entries.filter fun e => !(decide (e.state = .waiting) && inMask mask e.requester) } := by
  rw [State.flushAll_queue]
  refine congrArg (fun entries => { s.queue with entries := entries })
    (List.filter_congr fun x hx => ?_)
  have hgoes : x.id ∈ (s.flushable mask).map Entry.id ↔
      x.state = .waiting ∧ inMask mask x.requester = true := by
    rw [List.mem_map]
    constructor
    · rintro ⟨e, he, hid⟩
      obtain ⟨hmem, hwaiting, hmask⟩ := State.mem_flushable_iff.mp he
      rw [← List.inj_on_of_nodup_map hnames hmem hx hid]
      exact ⟨hwaiting, hmask⟩
    · rintro ⟨hwaiting, hmask⟩
      exact ⟨x, State.mem_flushable_iff.mpr ⟨hx, hwaiting, hmask⟩, rfl⟩
  rw [Bool.eq_iff_iff, decide_eq_true_iff, hgoes]
  simp [imp_iff_not_or]

theorem State.flushAll_changes (mask : Byte) (s : State) :
    s.Changes (s.flushAll (s.flushable mask)) :=
  State.completeAll_changes (fun _ he => (State.mem_flushable_iff.mp he).2.1)
    (fun _ he => inMask_bus (State.mem_flushable_iff.mp he).2.2)
    fun _ he => .inl (State.mem_flushable_iff.mp he).1

theorem exec_flush_of_inCommand {s : State} (hc : s.inCommand) (mask : Byte) :
    exec (.flush mask) s =
      .next ((s.flushAll (s.flushable mask)).judge.answer
        (.done [byteOf (s.flushable mask).length])) := serve_command hc _

/-- A judgement writes the events, a reply the service port. -/
theorem State.judge_answer_eq (r : Reply) (s : State) :
    s.judge.answer r =
      { s with
        events := s.judge.events,
        service := { s.service with frame := .reply, reply := r.bytes } } := by
  simp only [State.judge, State.answer, State.judgeIrqn, State.judgeSources]

/-- R135: after a command's judgement each source has its judged pending field. -/
theorem State.source_judge_answer (s : State) (r : Reply) (src : Source) :
    (s.judge.answer r).source src = { s.source src with pending := s.judgedPending src } := by
  rw [State.source_eq_of_sources (congrArg EventController.sources (State.answer_events r s.judge)),
    State.source_judge]

theorem State.answer_judgesAlike (r : Reply) (s : State) : s.JudgesAlike (s.answer r) :=
  ⟨rfl, rfl, rfl, rfl, rfl, rfl⟩

/-- R153: a drain whose masked entries have all left is DRAINED, and only such a one. -/
theorem State.drain_after_flush {s u : State} (hframe : s.FlushFrame u) (hu : u.DrainLegal) :
    u.drain.state =
      if (s.drain.state = .draining ∨ s.drain.state = .stuck) ∧
          u.maskedEntry s.drain.mask = false then
        .drained
      else s.drain.state := by
  have hmask := hframe.frame.drainMask
  have hwaits := hu.waits
  have hdone := hu.done
  rw [hmask] at hwaits hdone
  rcases hframe.drain with hsame | ⟨hwas, hdrained⟩
  · rw [hsame] at hwaits ⊢
    rw [if_neg]
    rintro ⟨hwas, hleft⟩
    exact nomatch hleft.symm.trans (hwaits hwas)
  · rw [if_pos ⟨hwas, hdone hdrained⟩, hdrained]

/-- Settles O20: the flushed entries complete one after another, and each completion keeps the laws of the
queue and of the drain. -/
theorem flushCompletesWaitingEntries : Obligations.FlushCompletesWaitingEntries := by
  intro s mask hc hqueue hdrain
  obtain ⟨u, hu⟩ : ∃ u, s.flushAll (s.flushable mask) = u := ⟨_, rfl⟩
  have hframe := s.flushFrame_flushAll (goes := s.flushable mask) fun _ => State.flushable_bus
  have hresponses := s.flushAll_responses (goes := s.flushable mask) fun _ => State.flushable_bus
  have hentries := State.flushAll_queue_of_nodup hqueue.names mask
  have hchanges := s.flushAll_changes mask
  have hexec := exec_flush_of_inCommand hc mask
  rw [hu] at hframe hresponses hentries hchanges hexec
  have hjudged := u.eventsJudged_judge.alike (State.answer_judgesAlike
    (.done [byteOf (s.flushable mask).length]) u.judge)
  have hsource := u.source_judge_answer (.done [byteOf (s.flushable mask).length])
  rw [State.judge_answer_eq] at hexec hjudged hsource
  have hqueueAfter := hchanges.keeps (P := State.QueueLegal)
    (fun _ _ hchange => hchange.queueLegal) hqueue
  have hdrainAfter := hchanges.keeps (P := State.DrainLegal)
    (fun _ _ hchange => hchange.drainLegal) hdrain
  refine ⟨_, hexec, hentries, hresponses, hframe.frame.offered, ?tagBusy, ?service,
    ?drain, hframe.frame.drainMask,
    hframe.frame.drainLimit, hframe.frame.drainTimer, fun src hedge => ?edge, fun src hlevel => ?level,
    hjudged, hframe.frame.pending, hframe.frame.freeCount, hframe.frame.resetAsserted,
    hframe.frame.windows, hframe.frame.cursors, hframe.frame.settings, hframe.frame.classTable,
    hframe.frame.mem, hframe.frame.slots, hframe.frame.floor, hframe.frame.stack⟩
  case service =>
    exact congrArg (fun v => { v with
      frame := .reply, reply := [0x01, byteOf (s.flushable mask).length] }) hframe.service
  case tagBusy =>
    intro r g
    have hbusy := hqueueAfter.tagBusy r g
    rw [State.tagIsBusy] at hbusy ⊢
    exact hbusy
  case drain =>
    have hstate := State.drain_after_flush hframe hdrainAfter
    rw [State.maskedEntry] at hstate ⊢
    exact hstate
  case edge =>
    rw [hsource, State.judgedPending_of_edge hedge]
    exact hframe.source src
  case level => rw [hsource, hframe.source]

end Sys2Proof.Machine
end

section
/-! SUPPORT. The memory port (R55 to R58, R73 to R76, R79 to R83, R87, R92 to R101): answers to an access,
write-backs, timeouts, recovery, and the end of the service interval. -/

namespace Sys2Proof.Machine

open Sys2Proof

/-! ### Answers without an access (R82, R83, R101) -/

theorem exec_memoryAnswer_unheard {s : State} {n : Fin 8}
    (h : s.resetAsserted = true ∨ s.mem.port = .recovering) (outcome : AnswerOutcome)
    (data : List Word) : exec (.memoryAnswer n outcome data) s = .next s := if_pos h

/-- R101: the write-back of the tag has not been issued. -/
theorem exec_memoryAnswer_unissued {s : State} {n : Fin 8} {o : EntryId} {p : Phase}
    (hhears : ¬ (s.resetAsserted = true ∨ s.mem.port = .recovering))
    (ht : s.mem.tags[n] = .busy o p none) (outcome : AnswerOutcome) (data : List Word) :
    exec (.memoryAnswer n outcome data) s = .next s.stray.judge := by
  simp only [exec, execMemoryAnswer]
  rw [if_neg hhears, ht]

/-- Settles O25. -/
theorem answersWithoutAnAccess : Obligations.AnswersWithoutAnAccess := by
  intro s n outcome data
  refine ⟨fun hunheard => exec_memoryAnswer_unheard hunheard outcome data,
    fun o p hreset hport htag => ?_⟩
  rw [exec_memoryAnswer_unissued (State.hearsAnswer hreset (.inl hport)) htag, State.stray_eq]

/-! ### OK answers of PLAIN entries (R74) -/

/-- Settles O26: the words are the answer's, or free ones of the access's number. -/
theorem okAnswerCompletesPlainAccess : Obligations.OkAnswerCompletesPlainAccess := by
  intro s n o p i e data hreset hport htag hfound
  rw [exec_memoryAnswer_access hreset hport htag hfound]
  refine ⟨?sameWords, ?otherWords, ?write⟩
  case sameWords =>
    rintro rfl hlength
    obtain ⟨hwords, hcount⟩ := State.answerWords_eq hlength s
    rw [State.answerAccess, State.answerOk, State.readAnswered, hwords, hcount]
    rfl
  case otherWords =>
    rintro rfl hlength
    refine ⟨s.answerWords e.length data, s.answerWords_length e.length data, ?_⟩
    rw [State.answerAccess, State.answerOk, State.readAnswered, State.countAnswer_ne hlength]
    rfl
  case write =>
    rintro rfl
    rfl

/-! ### The bit-operation unit (R87, R92, R95) -/

theorem BitOp.writes_iff (op : BitOp) (old : Bool) :
    op.writes old = true ↔ op = .change ∨ (op = .set ∧ old = false) ∨ (op = .clear ∧ old = true) := by
  cases op <;> simp [BitOp.writes]

/-- R87: a write turns the entry's bit over, and no other. -/
theorem BitOp.getLsbD_newWord (op : BitOp) (bit : Fin 32) (word : Word) (j : Nat) :
    (op.newWord bit word).getLsbD j =
      (word.getLsbD j ^^ (op.writes (word.getLsbD bit.val) && decide (j = bit.val))) := by
  unfold BitOp.newWord
  split_ifs with hwrites
  · have hmask : (1#32 <<< bit.val).getLsbD j = decide (j = bit.val) := by
      rw [Bool.eq_iff_iff]
      simp [BitVec.getLsbD_shiftLeft, BitVec.getLsbD_one]
      omega
    rw [BitVec.getLsbD_xor, hmask, hwrites, Bool.true_and]
  · rw [Bool.eq_false_iff.mpr hwrites, Bool.false_and, Bool.xor_false]

/-- Settles O32. -/
theorem bitOperationTables : Obligations.BitOperationTables := by
  intro op bit word
  refine ⟨rfl, op.writes_iff _, fun j hj => ?others, ?own, ?response⟩
  case others =>
    have hbit := op.getLsbD_newWord bit word j
    rw [decide_eq_false hj, Bool.and_false, Bool.xor_false] at hbit
    exact hbit
  case own =>
    have hbit := op.getLsbD_newWord bit word bit.val
    rw [decide_eq_true rfl, Bool.and_true] at hbit
    refine hbit.trans ?_
    cases op <;> cases word.getLsbD bit.val <;> rfl
  case response =>
    have hresponse : responseWord bit (fetchedOf op bit word) =
        (if word.getLsbD bit.val then 1 else 0) +
          (if op.writes (word.getLsbD bit.val) then 2 else 0) := rfl
    refine hresponse.trans ?_
    cases op <;> cases word.getLsbD bit.val <;> rfl

/-! ### The answer to a fetch (R92) -/

theorem EntryKind.opBit_eq_some_iff {k : EntryKind} {op : BitOp} {bit : Fin 32} :
    k.opBit = some (op, bit) ↔ k = .bitRead op bit ∨ k = .bitWrite op bit := by
  cases k <;> simp [EntryKind.opBit]

theorem exec_memoryAnswer_fetch {s : State} {n : Fin 8} {o : EntryId} {i : Issued} {e : Entry}
    {op : BitOp} {bit : Fin 32} (hreset : s.resetAsserted = false) (hport : s.mem.port = .running)
    (htag : s.mem.tags[n] = .busy o .fetch (some i)) (hfound : s.findEntry o = some e)
    (hkind : e.kind = .bitRead op bit ∨ e.kind = .bitWrite op bit) (data : List Word) :
    exec (.memoryAnswer n .ok data) s =
      .next ((s.countAnswer 1 data).fetchAnswered n e op bit
        ((s.answerWords 1 data).headD 0)).judge := by
  rw [exec_memoryAnswer_access hreset hport htag hfound, State.answerAccess, State.answerOk,
    State.fetchTaken, EntryKind.opBit_eq_some_iff.mpr hkind]

/-- With one word the answer's word is fetched. -/
theorem exec_memoryAnswer_fetch_word {s : State} {n : Fin 8} {o : EntryId} {i : Issued} {e : Entry}
    {op : BitOp} {bit : Fin 32} (hreset : s.resetAsserted = false) (hport : s.mem.port = .running)
    (htag : s.mem.tags[n] = .busy o .fetch (some i)) (hfound : s.findEntry o = some e)
    (hkind : e.kind = .bitRead op bit ∨ e.kind = .bitWrite op bit) (word : Word) :
    exec (.memoryAnswer n .ok [word]) s = .next (s.fetchAnswered n e op bit word).judge := by
  obtain ⟨hwords, hcount⟩ := State.answerWords_eq (n := 1) (data := [word]) rfl s
  rw [exec_memoryAnswer_fetch hreset hport htag hfound hkind, hwords, hcount, List.headD_cons]

theorem State.fetchAnswered_writes {op : BitOp} {bit : Fin 32} {word : Word}
    (h : op.writes (word.getLsbD bit.val) = true) (n : Fin 8) (e : Entry) (s : State) :
    s.fetchAnswered n e op bit word =
      { s with
        slots := (s.storeFetched e.id (fetchedOf op bit word)).slots,
        queue := (s.updateEntry e.id fun x => { x with state := .writingBack }).queue,
        mem :=
          { s.mem with
            tags := s.mem.tags.set n (.busy e.id .writeBack none),
            writeBacks := s.mem.writeBacks ++ [n] } } := by
  rw [State.fetchAnswered]
  exact if_pos h

theorem State.fetchAnswered_keeps {op : BitOp} {bit : Fin 32} {word : Word}
    (h : op.writes (word.getLsbD bit.val) = false) (n : Fin 8) (e : Entry) (s : State) :
    s.fetchAnswered n e op bit word =
      ((s.setTag n .free).releaseSlot e.id).complete e .ok
        (bitResponse e.kind (fetchedOf op bit word)) false := by
  rw [State.fetchAnswered]
  exact if_neg (Bool.eq_false_iff.mp h)

/-- R87: what the slot stores when the operation writes. -/
theorem fetchedOf_writes {op : BitOp} {bit : Fin 32} {word : Word}
    (h : op.writes (word.getLsbD bit.val) = true) :
    fetchedOf op bit word =
      { word := word, newWord := word ^^^ (1#32 <<< bit.val), write := true } := by
  rw [fetchedOf, BitOp.newWord, if_pos h, h]

/-- R95: without a write-back the response word is the old bit; a BIT_WRITE has none. -/
theorem bitResponse_keeps {k : EntryKind} {op : BitOp} {bit : Fin 32} {word : Word}
    (hkind : k = .bitRead op bit ∨ k = .bitWrite op bit)
    (h : op.writes (word.getLsbD bit.val) = false) :
    bitResponse k (fetchedOf op bit word) =
      if k = .bitRead op bit then [if word.getLsbD bit.val then 1 else 0] else [] := by
  rcases hkind with rfl | rfl
  · rw [if_pos rfl, bitResponse, responseWord, fetchedOf, h]
    simp
  · rw [if_neg nofun, bitResponse]

/-- Settles O27: the fetched word decides, and a wrong number of words is one free word. -/
theorem fetchAnswerDecidesWriteBack : Obligations.FetchAnswerDecidesWriteBack := by
  intro s n o i e op bit word hreset hport htag hfound hkind old writes
  have hid : e.id = o := (State.findEntry_some hfound).2
  refine ⟨fun hwrites => ?writes, fun hkeeps => ?keeps, fun data hlength => ?otherWords⟩
  case writes =>
    have hdecision : op.writes (word.getLsbD bit.val) = true := (op.writes_iff _).mpr hwrites
    rw [exec_memoryAnswer_fetch_word hreset hport htag hfound hkind,
      State.fetchAnswered_writes hdecision, fetchedOf_writes hdecision, hid]
    rfl
  case keeps =>
    have hdecision : op.writes (word.getLsbD bit.val) = false :=
      Bool.eq_false_iff.mpr (mt (op.writes_iff _).mp hkeeps)
    rw [exec_memoryAnswer_fetch_word hreset hport htag hfound hkind,
      State.fetchAnswered_keeps hdecision, bitResponse_keeps hkind hdecision, hid]
    rfl
  case otherWords =>
    refine ⟨(s.answerWords 1 data).headD 0, ?_⟩
    have hcounted := exec_memoryAnswer_fetch_word (s := s.countFree) hreset hport htag hfound hkind
      ((s.answerWords 1 data).headD 0)
    rw [exec_memoryAnswer_fetch hreset hport htag hfound hkind, State.countAnswer_ne hlength, hcounted]

/-! ### Write-backs (R73, R93 to R95) -/

theorem exec_writeBackIssue_of_waiting {s : State} {n : Fin 8} {rest : List (Fin 8)}
    (h : s.mem.writeBacks = n :: rest) :
    exec (.writeBackIssue true) s = .next ((s.sampleReady true).issueWriteBack n rest) := by
  have hsampled : (s.sampleReady true).mem.writeBacks = n :: rest := h
  simp only [exec, execWriteBackIssue]
  rw [hsampled]
  exact if_pos trivial

theorem exec_writeBackIssue_of_none {s : State} {ready : Bool}
    (h : ready = false ∨ s.mem.writeBacks = []) :
    exec (.writeBackIssue ready) s = .next (s.sampleReady ready) := by
  simp only [exec, execWriteBackIssue]
  split
  · rfl
  · next n rest hwaits =>
    rcases h with rfl | hnone
    · exact if_neg Bool.false_ne_true
    · exact nomatch hnone.symm.trans hwaits

/-- R93: the request comes from the owner's slot. -/
theorem State.issueWriteBack_of_slot {s : State} {n : Fin 8} {o : EntryId} {p : Phase}
    {i : Option Issued} {x : Slot} {f : Fetched} (htag : s.mem.tags[n] = .busy o p i)
    (hslot : s.slotOf o = some x) (hfetched : x.fetched = some f) (rest : List (Fin 8)) :
    s.issueWriteBack n rest =
      { s with
        mem :=
          { s.mem with
            writeBacks := rest,
            tags := s.mem.tags.set n (.busy o .writeBack s.issuedNow),
            requests := s.mem.requests ++
              [{ tag := x.dtag, direction := .write, address := x.word, length := 1,
                 byteEnables := some 15, data := [f.newWord] }] } } := by
  have hrequest : x.request =
      { tag := x.dtag, direction := .write, address := x.word, length := 1, byteEnables := some 15,
        data := [f.newWord] } := by
    rw [Slot.request, hfetched]
    rfl
  unfold State.issueWriteBack
  rw [htag]
  dsimp only
  rw [hslot, ← hrequest]
  rfl

/-- R95: the response is built from the slot. -/
theorem State.writeBackAnswered_of_slot {s : State} {e : Entry} {x : Slot} {f : Fetched}
    (hslot : s.slotOf e.id = some x) (hfetched : x.fetched = some f) (n : Fin 8) :
    s.writeBackAnswered n e =
      ((s.setTag n .free).releaseSlot e.id).complete e .ok (bitResponse e.kind f) true := by
  rw [State.writeBackAnswered, hslot, Option.bind_some, hfetched]
  rfl

/-- Settles O28. -/
theorem writeBackIsIssuedAndAnswered : Obligations.WriteBackIsIssuedAndAnswered := by
  refine ⟨fun s n rest o p i x f hwaits htag hslot hfetched => ?issued,
    fun s ready hnone => exec_writeBackIssue_of_none hnone,
    fun s n o i e x f data hreset hport htag hfound hslot hfetched => ?answered⟩
  case issued =>
    rw [exec_writeBackIssue_of_waiting hwaits,
      State.issueWriteBack_of_slot (s := s.sampleReady true) htag hslot hfetched]
    rfl
  case answered =>
    obtain ⟨-, rfl⟩ := State.findEntry_some hfound
    rw [exec_memoryAnswer_access hreset hport htag hfound, State.answerAccess, State.answerOk,
      State.writeBackAnswered_of_slot hslot hfetched]
    unfold bitResponse
    cases e.kind <;> rfl

/-! ### Accesses that fail (R75, R76) -/

/-- Settles O29. -/
theorem errorAnswerEndsTheAccess : Obligations.ErrorAnswerEndsTheAccess := by
  intro s n o p i e data hreset hport htag hfound
  obtain ⟨-, rfl⟩ := State.findEntry_some hfound
  rw [exec_memoryAnswer_access hreset hport htag hfound]
  rfl

theorem State.timeOut_of_owner {s : State} {n : Fin 8} {o : EntryId} {p : Phase} {i : Option Issued}
    {e : Entry} (htag : s.mem.tags[n] = .busy o p i) (hfound : s.findEntry o = some e) :
    s.timeOut n =
      ((s.setTag n .quarantined).failAccess e p .memTimeout .memTimeout).stallIfNoTag.judge := by
  have hfoundAfter : (s.setTag n .quarantined).findEntry o = some e := hfound
  unfold State.timeOut
  rw [htag]
  dsimp only
  rw [hfoundAfter]

/-- A failed access leaves the memory port but for its tag. -/
theorem State.failAccess_mem (e : Entry) (p : Phase) (o : UpOutcome) (src : Source) (s : State) :
    (s.failAccess e p o src).mem = s.mem :=
  ((s.releaseSlot e.id).complete_frame e o [] false).mem

theorem State.stallIfNoTag_of_all {s : State} (hport : s.mem.port = .running)
    (hall : ∀ n : Fin 8, s.mem.tags[n] = .quarantined) :
    s.stallIfNoTag = { s with mem := { s.mem with port := .stalled } } :=
  if_pos ⟨hport, s.countTags_quarantined_eq_eight_iff.mpr hall⟩

theorem State.stallIfNoTag_of_not {s : State}
    (h : s.mem.port ≠ .running ∨ ∃ n : Fin 8, s.mem.tags[n] ≠ .quarantined) :
    s.stallIfNoTag = s := by
  refine if_neg fun hall => ?_
  rcases h with hport | ⟨n, hn⟩
  · exact hport hall.1
  · exact hn (s.countTags_quarantined_eq_eight_iff.mp hall.2 n)

/-- Settles O30: the tag is QUARANTINED before the port is judged. -/
theorem responseTimeoutQuarantines : Obligations.ResponseTimeoutQuarantines := by
  intro s n
  refine ⟨fun o p i e htag hexpired hfound => ?expires, fun hidle => ?idle⟩
  case idle =>
    exact exec_expiry_idle rfl (TagRecord.responseLeft_eq_none_iff.mpr hidle)
  case expires =>
    have hdue : s.expiryLeft (.responseTimerExpiry n) = some 0 :=
      TagRecord.responseLeft_eq_some_iff.mpr ⟨o, p, i, htag, by omega⟩
    obtain ⟨-, rfl⟩ := State.findEntry_some hfound
    have hmem := (s.setTag n .quarantined).failAccess_mem e p .memTimeout .memTimeout
    have hport : ((s.setTag n .quarantined).failAccess e p .memTimeout .memTimeout).mem.port =
        s.mem.port := by rw [hmem]; rfl
    have htags (m : Fin 8) :
        ((s.setTag n .quarantined).failAccess e p .memTimeout .memTimeout).mem.tags[m] =
          if m = n then .quarantined else s.mem.tags[m] := by
      rw [hmem]
      exact getElem_set_fin ..
    rw [exec_expiry_due rfl hdue, expiryEffect, State.timeOut_of_owner htag hfound]
    refine ⟨fun hrunning hothers => ?_, fun hnot => ?_⟩
    · rw [State.stallIfNoTag_of_all (hport.trans hrunning) fun m => ?_]
      · rfl
      · rw [htags]
        split_ifs with hm
        · rfl
        · exact hothers m hm
    · rw [State.stallIfNoTag_of_not]
      · rfl
      · refine hnot.imp (fun hstopped => hport ▸ hstopped) fun ⟨m, hm, hfree⟩ => ⟨m, ?_⟩
        rw [htags, if_neg hm]
        exact hfree

/-! ### Recovery (R81, R82) -/

theorem exec_faultClear_of_inCommand {s : State} (hc : s.inCommand) :
    exec .faultClear s = .next (s.faultClear.1.replying s.faultClear.2.bytes) := serve_command hc _

theorem State.faultClear_of_stalled {s : State} (h : s.mem.port = .stalled) :
    s.faultClear =
      (({ s with mem := { s.mem with port := .recovering, mrstn := true, recoveryTimer := 0 } } :
        State).judge, .done []) := if_pos h

theorem State.faultClear_of_not_stalled {s : State} (h : s.mem.port ≠ .stalled) :
    s.faultClear = (s, .busy) := if_neg h

/-- Settles O31. -/
theorem faultClearAndRecovery : Obligations.FaultClearAndRecovery := by
  intro s
  refine ⟨fun hc hstalled => ?_, fun hc hnot => ?_, fun hrecovering hover => ?_, fun hnot => ?_⟩
  · rw [exec_faultClear_of_inCommand hc, State.faultClear_of_stalled hstalled]
    rfl
  · rw [exec_faultClear_of_inCommand hc, State.faultClear_of_not_stalled hnot]
    rfl
  · have hdue : s.expiryLeft .endOfRecovery = some 0 :=
      State.recoveryLeft_eq_some_iff.mpr ⟨hrecovering, Nat.sub_eq_zero_of_le hover⟩
    rw [exec_expiry_due rfl hdue]
    rfl
  · exact exec_expiry_idle rfl (if_neg hnot)

/-! ### The service interval (R55 to R58) -/

/-- Settles O22. -/
theorem intervalExpiryRefills : Obligations.IntervalExpiryRefills := by
  intro s hreset hover
  have hdue : s.expiryLeft .intervalExpiry = some 0 :=
    State.intervalLeft_eq_some_iff.mpr ⟨hreset, Nat.sub_eq_zero_of_le hover⟩
  rw [exec_expiry_due rfl hdue]
  rfl

end Sys2Proof.Machine
end

section
/-! SUPPORT. Commands of the service port that write drain control, the cursors, the settings, the monitor
entry and the levels: each is its effect and its reply, by the branches of its operation. -/

namespace Sys2Proof.Machine

open Sys2Proof

/-! ### Drain control (R151, R154, R155) -/

theorem exec_drain_of_inCommand {s : State} (hc : s.inCommand) (mask : Byte) :
    exec (.drain mask) s = .next ((s.startDrain mask).1.replying (s.startDrain mask).2.bytes) :=
  serve_command hc _

theorem State.startDrain_of_empty (s : State) : s.startDrain 0 = (s, .range) := if_pos rfl

theorem State.startDrain_of_started {s : State} {mask : Byte} (hmask : mask ≠ 0)
    (hstate : s.drain.state ≠ .none) : s.startDrain mask = (s, .busy) := by
  rw [State.startDrain, if_neg hmask, if_pos hstate]

theorem State.startDrain_of_masked {s : State} {mask : Byte} (hmask : mask ≠ 0)
    (hstate : s.drain.state = .none) (hentry : s.maskedEntry mask = true) :
    s.startDrain mask =
      (({ s with
          drain := { state := .draining, mask := mask, limit := s.settings.drainLimit, timer := 0 } } :
        State).judge, .done [DrainState.draining.byte]) := by
  rw [State.startDrain, if_neg hmask, if_neg (not_not.mpr hstate), if_pos hentry]

theorem State.startDrain_of_unmasked {s : State} {mask : Byte} (hmask : mask ≠ 0)
    (hstate : s.drain.state = .none) (hentry : s.maskedEntry mask = false) :
    s.startDrain mask =
      (({ s with
          drain := { s.drain with state := .drained, mask := mask, limit := s.settings.drainLimit } } :
        State).judge, .done [DrainState.drained.byte]) := by
  rw [State.startDrain, if_neg hmask, if_neg (not_not.mpr hstate),
    if_neg (Bool.eq_false_iff.mp hentry)]

/-- Settles O43. -/
theorem drainStarts : Obligations.DrainStarts := by
  intro s mask hc
  rw [exec_drain_of_inCommand hc]
  refine ⟨?_, fun hmask hstate => ?_, fun hmask hstate hsome => ?_, fun hmask hstate hnone => ?_⟩
  · rintro rfl
    rw [State.startDrain_of_empty]
    rfl
  · rw [State.startDrain_of_started hmask hstate]
    rfl
  · rw [State.startDrain_of_masked hmask hstate (State.maskedEntry_eq_true_iff.mpr hsome)]
    rfl
  · rw [State.startDrain_of_unmasked hmask hstate (State.maskedEntry_eq_false_iff.mpr hnone)]
    rfl

theorem exec_resume_of_inCommand {s : State} (hc : s.inCommand) :
    exec .resume s = .next (s.resume.1.replying s.resume.2.bytes) := serve_command hc _

theorem State.resume_of_none {s : State} (h : s.drain.state = .none) : s.resume = (s, .range) :=
  if_pos h

theorem State.resume_of_started {s : State} (h : s.drain.state ≠ .none) :
    s.resume =
      (({ s with drain := { s.drain with state := .none, mask := 0 } } : State).judge,
        .done [s.drain.state.byte]) := if_neg h

/-- Settles O44. -/
theorem resumeAndDrainExpiry : Obligations.ResumeAndDrainExpiry := by
  intro s
  refine ⟨fun hc hnone => ?_, fun hc hstarted => ?_, fun hdraining hover => ?_, fun hnot => ?_⟩
  · rw [exec_resume_of_inCommand hc, State.resume_of_none hnone]
    rfl
  · rw [exec_resume_of_inCommand hc, State.resume_of_started hstarted]
    rfl
  · have hdue : s.expiryLeft .drainTimerExpiry = some 0 :=
      State.drainLeft_eq_some_iff.mpr ⟨hdraining, Nat.sub_eq_zero_of_le hover⟩
    rw [exec_expiry_due rfl hdue]
    rfl
  · exact exec_expiry_idle rfl (if_neg hnot)

/-! ### CURSOR_SET (R117) -/

theorem exec_cursorSet_of_inCommand {s : State} (hc : s.inCommand) (index : Byte) (row column : Half) :
    exec (.cursorSet index row column) s =
      .next ((s.placeCursor index row column).1.replying (s.placeCursor index row column).2.bytes) :=
  serve_command hc _

theorem State.placeCursor_of_index_gt {index : Byte} (h : 15 < index.toNat) (row column : Half)
    (s : State) : s.placeCursor index row column = (s, .range) := by
  rw [State.placeCursor, below16_eq_none h]

theorem State.placeCursor_eq {index : Byte} {w : Fin 16} (hw : w.val = index.toNat)
    (row column : Half) (s : State) :
    s.placeCursor index row column =
      if s.windows[w].valid = true ∧ s.windows[w].kind = .aperture ∧
          row.toNat < s.windows[w].rows ∧ column.toNat < s.windows[w].columns then
        ((s.setCursor w
            (some { row := row.toNat, column := column.toNat, exhausted := false })).judge, .done [])
      else (s, .range) := by
  rw [State.placeCursor, below16_eq_some hw]

/-- Settles O34. -/
theorem cursorSetPlacesTheCursor : Obligations.CursorSetPlacesTheCursor := by
  intro s index row column hc
  rw [exec_cursorSet_of_inCommand hc]
  refine ⟨fun hindex => ?_, fun w hw => ⟨fun hvalid hkind hrow hcolumn => ?_, fun hbad => ?_⟩⟩
  · rw [State.placeCursor_of_index_gt hindex]
    rfl
  · rw [State.placeCursor_eq hw, if_pos ⟨hvalid, hkind, hrow, hcolumn⟩]
    rfl
  · rw [State.placeCursor_eq hw, if_neg]
    · rfl
    · rintro ⟨hvalid, hkind, hrow, hcolumn⟩
      rcases hbad with hbad | hbad | hbad | hbad
      · exact nomatch hvalid.symm.trans hbad
      · exact hbad hkind
      · omega
      · omega

/-! ### SETTINGS_WRITE and DEFAULTS (R159, R160, R174) -/

/-- R174: a field of the settings record is out of its range. -/
def SettingsOutside (b : SettingsBytes) : Prop :=
  b.interval.toNat = 0 ∨ 4096 < b.interval.toNat ∨ b.responseLimit.toNat = 0 ∨
    1023 < b.responseLimit.toNat ∨ b.drainLimit.toNat = 0 ∨ b.threshold.toNat = 0 ∨
    24 < b.threshold.toNat ∨ 7 < b.monitorClass.toNat ∨ 7 < b.defaultClass.toNat

theorem settingsOfBytes_of_outside {b : SettingsBytes} (h : SettingsOutside b) :
    settingsOfBytes b = none := by
  unfold SettingsOutside at h
  unfold settingsOfBytes
  split
  · next monitorClass defaultClass hmonitor hdefault =>
    have hm := below8_eq_some_iff.mp hmonitor
    have hd := below8_eq_some_iff.mp hdefault
    exact if_neg (by omega)
  · rfl

theorem settingsOfBytes_of_not_outside {b : SettingsBytes} (h : ¬ SettingsOutside b) :
    ∃ monitorClass defaultClass : Fin 8,
      monitorClass.val = b.monitorClass.toNat ∧ defaultClass.val = b.defaultClass.toNat ∧
      settingsOfBytes b =
        some
          { interval := b.interval.toNat, holdLimit := b.holdLimit.toNat,
            responseLimit := b.responseLimit.toNat, drainLimit := b.drainLimit.toNat,
            threshold := b.threshold.toNat, monitorClass := monitorClass,
            defaultClass := defaultClass, deny := b.flags.getLsbD 0 } := by
  unfold SettingsOutside at h
  have hmonitor : b.monitorClass.toNat < 8 := by omega
  have hdefault : b.defaultClass.toNat < 8 := by omega
  refine ⟨⟨_, hmonitor⟩, ⟨_, hdefault⟩, rfl, rfl, ?_⟩
  unfold settingsOfBytes
  rw [below8_eq_some_iff.mpr (show (⟨_, hmonitor⟩ : Fin 8).val = _ from rfl),
    below8_eq_some_iff.mpr (show (⟨_, hdefault⟩ : Fin 8).val = _ from rfl)]
  exact if_pos (by omega)

theorem exec_settingsWrite_of_inCommand {s : State} (hc : s.inCommand) (b : SettingsBytes) :
    exec (.settingsWrite b) s =
      .next ((s.writeSettings b).1.replying (s.writeSettings b).2.bytes) := serve_command hc _

theorem exec_defaults_of_inCommand {s : State} (hc : s.inCommand) :
    exec .defaults s = .next (s.restoreDefaults.1.replying s.restoreDefaults.2.bytes) :=
  serve_command hc _

theorem State.defaultsAllowed_iff (s : State) :
    s.defaultsAllowed = true ↔
      s.drain.state = .drained ∧ s.drain.mask = 0xFF ∧ s.queue.entries = [] := by
  simp [State.defaultsAllowed, and_assoc]

/-- Settles O36. -/
theorem settingsWriteAndDefaults : Obligations.SettingsWriteAndDefaults := by
  refine ⟨fun s b hc => ⟨fun houtside => ?range, fun hinside => ?written⟩,
    fun s hc => ⟨fun hstate hmask hempty => ?defaults, fun hnot => ?busy⟩⟩
  case range =>
    rw [exec_settingsWrite_of_inCommand hc, State.writeSettings, settingsOfBytes_of_outside houtside]
    rfl
  case written =>
    obtain ⟨monitorClass, defaultClass, hmonitor, hdefault, hrecord⟩ :=
      settingsOfBytes_of_not_outside hinside
    refine ⟨monitorClass, defaultClass, hmonitor, hdefault, ?_⟩
    rw [exec_settingsWrite_of_inCommand hc, State.writeSettings, hrecord]
    rfl
  case defaults =>
    rw [exec_defaults_of_inCommand hc, State.restoreDefaults,
      if_pos (s.defaultsAllowed_iff.mpr ⟨hstate, hmask, hempty⟩)]
    rfl
  case busy =>
    rw [exec_defaults_of_inCommand hc, State.restoreDefaults, if_neg]
    · rfl
    · rw [s.defaultsAllowed_iff]
      rintro ⟨hstate, hmask, hempty⟩
      rcases hnot with hnot | hnot | hnot
      · exact hnot hstate
      · exact hnot hmask
      · exact hnot hempty

/-! ### Monitor access (R40, R178) -/

theorem State.monitorAccess_of_unaligned {address : Word} (h : address.toNat % 4 ≠ 0)
    (kind : EntryKind) (s : State) : s.monitorAccess address kind = (s, .range) :=
  if_pos (Bool.eq_false_iff.mpr (mt (aligned_iff address).mp h))

theorem State.monitorAccess_of_busy {s : State} {address : Word} (h : address.toNat % 4 = 0)
    (hbusy : s.service.monitor.state = .busy ∨ 24 ≤ s.queue.entries.length) (kind : EntryKind) :
    s.monitorAccess address kind = (s, .busy) := by
  rw [State.monitorAccess, (aligned_iff address).mpr h, if_neg nofun, queueDepth, if_pos hbusy]

theorem State.monitorAccess_of_free {s : State} {address : Word} (h : address.toNat % 4 = 0)
    (hfree : s.service.monitor.state ≠ .busy) (hroom : s.queue.entries.length < 24)
    (kind : EntryKind) :
    s.monitorAccess address kind =
      (((s.enqueue .monitor 0 address .monitor kind address 1 s.settings.monitorClass).setMonitor
          { state := .busy, outcome := none, data := 0 }).judge, .done (be2 s.queue.stamp)) := by
  rw [State.monitorAccess, (aligned_iff address).mpr h, if_neg nofun, queueDepth,
    if_neg (not_or.mpr ⟨hfree, Nat.not_le.mpr hroom⟩)]

theorem exec_monitorRead_of_inCommand {s : State} (hc : s.inCommand) (address : Word) :
    exec (.monitorRead address) s =
      .next ((s.monitorAccess address .plainRead).1.replying
        (s.monitorAccess address .plainRead).2.bytes) := serve_command hc _

theorem exec_monitorWrite_of_inCommand {s : State} (hc : s.inCommand) (address data : Word) :
    exec (.monitorWrite address data) s =
      .next ((s.monitorAccess address (.plainWrite (some 15) [data])).1.replying
        (s.monitorAccess address (.plainWrite (some 15) [data])).2.bytes) := serve_command hc _

/-- Settles O37. -/
theorem monitorAccessIsJudgedInOrder : Obligations.MonitorAccessIsJudgedInOrder := by
  intro s address data hc
  rw [exec_monitorRead_of_inCommand hc, exec_monitorWrite_of_inCommand hc]
  refine ⟨fun hunaligned => ?_, fun haligned hbusy => ?_, fun haligned hfree hroom => ?_⟩
  · rw [State.monitorAccess_of_unaligned hunaligned, State.monitorAccess_of_unaligned hunaligned]
    exact ⟨rfl, rfl⟩
  · rw [State.monitorAccess_of_busy haligned hbusy, State.monitorAccess_of_busy haligned hbusy]
    exact ⟨rfl, rfl⟩
  · rw [State.monitorAccess_of_free haligned hfree hroom,
      State.monitorAccess_of_free haligned hfree hroom]
    exact ⟨rfl, rfl⟩

/-! ### EVENT_SETUP (R137) -/

theorem settableSource_of_out_of_range {b : Byte} (h : b.toNat = 0 ∨ 12 < b.toNat) :
    settableSource b = none := dif_neg (by omega)

/-- R137: vector 0 is FAULT's. -/
theorem Source.vector_pos {src : Source} (h : src ≠ .fault) : 1 ≤ src.vector.val := by
  cases src with
  | fault => exact absurd rfl h
  | _ => decide

theorem settableSource_of_vector {b : Byte} {src : Source} (hsrc : src ≠ .fault)
    (hvector : src.vector.val = b.toNat) : settableSource b = some src := by
  have hlow := Source.vector_pos hsrc
  have hrange : 1 ≤ b.toNat ∧ b.toNat < 13 := by omega
  have hindex : (⟨b.toNat, hrange.2⟩ : Fin 13) = src.vector := Fin.ext hvector.symm
  rw [settableSource, dif_pos hrange, hindex, Source.ofVector_vector]

theorem exec_eventSetup_of_inCommand {s : State} (hc : s.inCommand) (source level : Byte) :
    exec (.eventSetup source level) s =
      .next ((s.setupEvent source level).1.replying (s.setupEvent source level).2.bytes) :=
  serve_command hc _

theorem State.setupEvent_range {source level : Byte}
    (h : source.toNat = 0 ∨ 12 < source.toNat ∨ 7 < level.toNat) (s : State) :
    s.setupEvent source level = (s, .range) := by
  unfold State.setupEvent
  split
  · next src hsrc =>
    have hknown : ¬ (source.toNat = 0 ∨ 12 < source.toNat) := fun hrange =>
      nomatch (settableSource_of_out_of_range hrange).symm.trans hsrc
    exact if_neg (by omega)
  · rfl

theorem State.setupEvent_done {source level : Byte} {src : Source} (hsrc : src ≠ .fault)
    (hvector : src.vector.val = source.toNat) (hlevel : level.toNat ≤ 7) (s : State) :
    s.setupEvent source level =
      ((s.setSource src { s.source src with level := level.toNat }).judge, .done []) := by
  rw [State.setupEvent, settableSource_of_vector hsrc hvector]
  exact if_pos hlevel

/-- Settles O39. -/
theorem eventSetupSetsALevel : Obligations.EventSetupSetsALevel := by
  intro s source level hc
  rw [exec_eventSetup_of_inCommand hc]
  refine ⟨fun hrange => ?_, fun src hsrc hvector hlevel => ?_⟩
  · rw [State.setupEvent_range hrange]
    rfl
  · rw [State.setupEvent_done hsrc hvector hlevel]
    rfl

end Sys2Proof.Machine
end

section
/-! SUPPORT. Occurrences, the judgement and EVENT_CLEAR (R134, R135, R139, R147), and EVENT_TAKE with the
snapshots of the level sources (R44, R80, R116, R141, R142, R156). -/

namespace Sys2Proof.Machine

open Sys2Proof

/-! ### Occurrences (R134) -/

theorem SourceRecord.record_of_idle {r : SourceRecord} (h : r.pending = false) (d : Detail) :
    r.record d = { level := r.level, pending := true, detail := d, count := 1 } :=
  if_neg (Bool.eq_false_iff.mp h)

theorem SourceRecord.record_of_pending {r : SourceRecord} (h : r.pending = true) (d : Detail) :
    r.record d = { r with count := min 15 (r.count + 1) } := if_pos h

/-! ### The judgement (R135, R139) -/

theorem State.exhausted_ne_nil_iff (s : State) :
    s.exhausted ≠ [] ↔ ∃ (w : Fin 16) (c : Cursor), s.cursors[w] = some c ∧ c.exhausted = true := by
  rw [State.exhausted, ne_eq, List.filter_eq_nil_iff, not_forall]
  refine exists_congr fun w => ?_
  cases s.cursors[w] with
  | none => simp
  | some c => simp

theorem State.judge_fault_iff (s : State) :
    (s.judge.source .fault).pending = true ↔ s.mem.port = .stalled := by
  rw [State.source_judge]
  exact decide_eq_true_iff

theorem State.judge_apertureEnd_iff (s : State) :
    (s.judge.source .apertureEnd).pending = true ↔
      ∃ (w : Fin 16) (c : Cursor), s.cursors[w] = some c ∧ c.exhausted = true := by
  rw [State.source_judge, ← s.exhausted_ne_nil_iff]
  simp [State.judgedPending]

theorem State.judge_drain_iff (s : State) :
    (s.judge.source .drain).pending = true ↔ s.drain.state = .drained ∨ s.drain.state = .stuck := by
  rw [State.source_judge]
  simp [State.judgedPending]

theorem State.judge_queueHigh_iff (s : State) :
    (s.judge.source .queueHigh).pending = true ↔ s.settings.threshold ≤ s.queue.entries.length := by
  rw [State.source_judge]
  exact decide_eq_true_iff

theorem State.source_judge_of_edge {src : Source} (h : src.isLevel = false) (s : State) :
    s.judge.source src = s.source src := by
  rw [State.source_judge, State.judgedPending_of_edge h]

/-! ### EVENT_CLEAR (R147) -/

/-- The part after EVENT-CLEAR, not yet judged. -/
def State.cleared (s : State) (mask : Half) : State :=
  { s with events := { s.events with sources := Vector.ofFn fun i => s.clearRecord mask i } }

theorem exec_eventClear_of_inCommand {s : State} (hc : s.inCommand) (mask : Half) :
    exec (.eventClear mask) s = .next ((s.cleared mask).judge.replying [0x01]) := serve_command hc _

theorem State.clearRecord_eq (s : State) (mask : Half) (src : Source) :
    (s.cleared mask).source src =
      if src.isLevel = false ∧ mask.getLsbD src.vector.val = true ∧ (s.source src).pending = true then
        (s.source src).emptied
      else s.source src := by
  rw [State.cleared, State.source_cleared, State.clearRecord, Source.ofVector_vector]
  rfl

/-- Settles O42: a cleared source is emptied by its flag, and each level source is judged by its own
condition. -/
theorem eventClearAndOccurrences : Obligations.EventClearAndOccurrences := by
  refine ⟨fun s mask hc => ⟨s.cleared mask, exec_eventClear_of_inCommand hc mask, rfl, fun src => ?_⟩,
    fun s src d => ?_, fun s => ?_⟩
  · rw [State.clearRecord_eq]
    refine ⟨fun hedge hflag hpending => if_pos ⟨hedge, hflag, hpending⟩, fun hkept => if_neg ?_⟩
    rintro ⟨hedge, hflag, hpending⟩
    rcases hkept with hkept | hkept | hkept
    · exact nomatch hkept.symm.trans hedge
    · exact nomatch hkept.symm.trans hflag
    · exact nomatch hkept.symm.trans hpending
  · rw [State.source_report]
    exact ⟨fun hidle => SourceRecord.record_of_idle hidle d,
      fun hpending => SourceRecord.record_of_pending hpending d,
      fun other hother => State.source_report_ne hother d s, rfl⟩
  · refine ⟨rfl, fun src => ⟨?_, fun hedge => State.source_judge_of_edge hedge s⟩, s.judge_fault_iff,
      s.judge_apertureEnd_iff, s.judge_drain_iff, s.judge_queueHigh_iff, ?_⟩
    · rw [State.source_judge]
    · rw [State.judge_irqn_iff]
      simp only [State.aboveFloor_judge_iff, State.source_judge]

/-! ### EVENT_TAKE: the source selected (R141) -/

theorem exec_eventTake_of_inCommand {s : State} (hc : s.inCommand) :
    exec .eventTake s = .next (s.takeEvent.1.replying s.takeEvent.2.bytes) := serve_command hc _

theorem State.selected_eq_none {s : State} (h : ∀ src, s.aboveFloor src = false) :
    s.selected = none := by
  rw [State.selected, pickMax_none, List.filter_eq_nil_iff]
  exact fun src _ => Bool.eq_false_iff.mp (h src)

/-- The sources stand in the order of their vectors. -/
theorem Source.all_pairwise : Source.all.Pairwise fun a b => a.vector < b.vector := by decide

/-- R141: the highest level is selected, and of several the lowest vector. -/
theorem State.selected_eq_some {s : State} {src : Source} (habove : s.aboveFloor src = true)
    (hbest : ∀ other, s.aboveFloor other = true → (s.source other).level < (s.source src).level ∨
      ((s.source other).level = (s.source src).level ∧ src.vector ≤ other.vector)) :
    s.selected = some src := by
  have hsrc : src ∈ Source.all.filter s.aboveFloor := List.mem_filter.mpr ⟨src.mem_all, habove⟩
  cases hpick : s.selected with
  | none =>
    rw [State.selected, pickMax_none] at hpick
    rw [hpick] at hsrc
    cases hsrc
  | some b =>
    have hgreatest := pickMax_greatest _ hpick src hsrc
    obtain ⟨before, after, hlist, hbefore⟩ := pickMax_first _ hpick
    have hsorted := Source.all_pairwise.filter s.aboveFloor
    rw [hlist] at hsrc hsorted
    rw [List.pairwise_append, List.pairwise_cons] at hsorted
    obtain ⟨-, ⟨hafter, -⟩, -⟩ := hsorted
    have hb := hbest b (State.selected_aboveFloor hpick)
    rcases List.mem_append.mp hsrc with hmem | hmem
    · have hless := hbefore src hmem
      omega
    · rcases List.mem_cons.mp hmem with rfl | hmem
      · rfl
      · have hless := hafter src hmem
        omega

theorem State.takeEvent_of_full {s : State} (h : 4 ≤ s.events.stack.length) :
    s.takeEvent = (s, .done (eventReply 15 0 0 true Detail.empty)) := if_pos h

theorem State.takeEvent_of_none {s : State} (hroom : s.events.stack.length < 4)
    (hnone : s.selected = none) :
    s.takeEvent = (s, .done (eventReply 15 0 0 false Detail.empty)) := by
  rw [State.takeEvent, if_neg (Nat.not_le.mpr hroom), hnone]

theorem State.takeEvent_of_some {s : State} {src : Source} (hroom : s.events.stack.length < 4)
    (hselected : s.selected = some src) :
    s.takeEvent =
      (((s.raiseFloor (s.source src).level).emptyIfEdge src).judge,
        .done (eventReply src.vector.val (s.source src).level (s.takeCount src) false
          (s.takeDetail src))) := by
  rw [State.takeEvent, if_neg (Nat.not_le.mpr hroom), hselected]

/-- R142: what a take writes before the judgement. -/
theorem State.emptyIfEdge_raiseFloor (s : State) (src : Source) :
    (s.raiseFloor (s.source src).level).emptyIfEdge src =
      { s with
        events :=
          { s.events with
            floor := (s.source src).level, stack := s.events.floor :: s.events.stack,
            sources :=
              if src.isLevel then s.events.sources
              else s.events.sources.set src.vector
                { level := (s.source src).level, pending := false,
                  detail := Detail.empty, count := 0 } } } := by
  unfold State.emptyIfEdge
  split_ifs <;> rfl

/-- R142: an edge source gives the stored detail. -/
theorem State.takeDetail_eq (s : State) (src : Source) :
    s.takeDetail src = if src.isLevel then s.takeDetail src else (s.source src).detail := by
  cases src <;> rfl

/-! ### The snapshots of the level sources -/

/-- R80. -/
theorem State.countTags_quarantined_eq (s : State) :
    s.countTags .quarantined =
      ((List.finRange 8).filter fun n => decide (s.mem.tags[n] = .quarantined)).length := by
  simp only [State.countTags, TagRecord.state_eq_quarantined_iff]

/-- R116: the windows whose cursor is EXHAUSTED, from the lowest one. -/
theorem State.exhausted_eq_cons {s : State} {w : Fin 16} (hw : w ∈ s.exhausted)
    (hfirst : ∀ v < w, v ∉ s.exhausted) : ∃ rest, s.exhausted = w :: rest := by
  have hhead : s.exhausted.head? = some w := by
    simp only [State.exhausted, List.mem_filter, List.mem_finRange, true_and] at hw hfirst
    rw [State.exhausted, List.head?_filter, find?_finRange_eq_some_iff]
    exact ⟨hw, fun v hv => Bool.eq_false_iff.mpr (hfirst v hv)⟩
  exact List.head?_eq_some_iff.mp hhead

theorem State.apertureDetail_of_cons {s : State} {w : Fin 16} {rest : List (Fin 16)}
    (h : s.exhausted = w :: rest) :
    s.apertureDetail =
      { requester := none, address := s.windows[w].base, window := some (.window w),
        cls := some s.windows[w].cls, code := some (.number s.exhausted.length) } := by
  rw [State.apertureDetail, h]
  rfl

/-- R156: STUCK names the oldest entry of a masked requester. -/
theorem State.drainDetail_of_stuck {s : State} {before after : List Entry} {e : Entry}
    (hstate : s.drain.state = .stuck) (hq : s.queue.entries = before ++ e :: after)
    (he : inMask s.drain.mask e.requester = true)
    (hbefore : ∀ a ∈ before, inMask s.drain.mask a.requester = false) :
    s.drainDetail = e.detail (some .stuck) := by
  have holdest : s.queue.entries.find? (fun x => inMask s.drain.mask x.requester) = some e := by
    rw [hq, List.find?_eq_some_iff_append]
    exact ⟨he, before, after, rfl, fun a ha => by rw [hbefore a ha]; rfl⟩
  rw [State.drainDetail, hstate]
  dsimp only
  rw [holdest]

/-! ### The bytes of a detail (Tables 10-9 and 10-13) -/

theorem optByte_requester (requester : Option Requester) :
    optByte requesterByte requester =
      match requester with
      | some (.bus n) => BitVec.ofNat 8 n.val
      | some .monitor => 0x08
      | none => 0xFF := by
  rcases requester with _ | (n | _) <;> rfl

theorem optByte_windowRef (window : Option WindowRef) :
    optByte WindowRef.byte window =
      match window with
      | some (.window w) => BitVec.ofNat 8 w.val
      | some .default => 0x10
      | none => 0xFF := by
  rcases window with _ | (w | _) <;> rfl

theorem optByte_class (cls : Option (Fin 8)) :
    optByte (fun c : Fin 8 => byteOf c.val) cls =
      match cls with
      | some c => BitVec.ofNat 8 c.val
      | none => 0xFF := by
  cases cls <;> rfl

theorem optByte_code (code : Option Code) :
    optByte Code.byte code =
      match code with
      | none => 0xFF
      | some (.phase .read) => 0x00
      | some (.phase .write) => 0x01
      | some (.phase .fetch) => 0x02
      | some (.phase .writeBack) => 0x03
      | some .stray => 0x04
      | some .permit => 0x00
      | some .routeDeny => 0x01
      | some .split => 0x00
      | some .unsupported => 0x01
      | some .tagInUse => 0x02
      | some (.hold .order) => 0x00
      | some (.hold .hazard) => 0x01
      | some (.hold .level) => 0x02
      | some (.hold .credit) => 0x03
      | some (.hold .slot) => 0x04
      | some (.hold .port) => 0x05
      | some .plain => 0x00
      | some .bit => 0x01
      | some .drained => 0x00
      | some .stuck => 0x01
      | some (.number n) => BitVec.ofNat 8 n
      | some (.outcome .ok) => 0x00
      | some (.outcome .holdTimeout) => 0x06
      | some (.outcome .memError) => 0x08
      | some (.outcome .memTimeout) => 0x09 := by
  cases code with
  | none => rfl
  | some c =>
    cases c with
    | phase p => cases p <;> rfl
    | hold r => cases r <;> rfl
    | outcome o => cases o <;> rfl
    | _ => rfl

/-- Settles O41: the selection by level and vector, the snapshots, and the bytes of every detail. -/
theorem eventTakeSelects : Obligations.EventTakeSelects := by
  intro s hc
  rw [exec_eventTake_of_inCommand hc]
  refine ⟨fun hfull => ?full, fun hroom hnone => ?none, fun src hroom habove hbest => ?some,
    ?fault, rfl, fun w hw hfirst => ?aperture, fun hstate => ?drained,
    fun before e after hstate hq he hbefore => ?stuck, fun d => ?bytes⟩
  case full =>
    rw [State.takeEvent_of_full hfull]
    rfl
  case none =>
    have hselected : s.selected = .none :=
      State.selected_eq_none fun src =>
        Bool.eq_false_iff.mpr (mt (s.aboveFloor_iff src).mp (hnone src))
    rw [State.takeEvent_of_none hroom hselected]
    rfl
  case some =>
    have hselected : s.selected = .some src :=
      State.selected_eq_some ((s.aboveFloor_iff src).mpr habove)
        fun other hother => hbest other ((s.aboveFloor_iff other).mp hother)
    rw [State.takeEvent_of_some hroom hselected, State.emptyIfEdge_raiseFloor, ← State.takeDetail_eq]
    rfl
  case fault => exact congrArg numberDetail s.countTags_quarantined_eq
  case aperture =>
    obtain ⟨rest, hrest⟩ := State.exhausted_eq_cons
      (List.mem_filter.mpr ⟨List.mem_finRange w, hw⟩)
      fun v hv hin => nomatch (hfirst v hv).symm.trans (List.mem_filter.mp hin).2
    exact State.apertureDetail_of_cons hrest
  case drained =>
    rw [State.takeDetail, State.drainDetail, hstate]
    rfl
  case stuck =>
    rw [State.takeDetail, State.drainDetail_of_stuck hstate hq he hbefore]
    rfl
  case bytes =>
    rw [Detail.bytes, optByte_requester, optByte_windowRef, optByte_class, optByte_code]
    rfl

end Sys2Proof.Machine
end

section
/-! SUPPORT. The front of the queue of commands, RESETN's two commands (R45, R83), the frame's edges (R163 to
R165, R168), and which commands give a next state (log 4). -/

namespace Sys2Proof.Machine

open Sys2Proof

/-- Settles O1. -/
theorem stepRunsFrontCommand : Obligations.StepRunsFrontCommand := fun _ _ _ => rfl

/-! ### HARD_RESET and RESETN_RELEASE -/

theorem State.asserted_classes (s : State) (k : Fin 8) :
    s.asserted.classTable.classes[k] = ClassRecord.reset := by
  simp [State.asserted, State.reset]

theorem State.asserted_tags (s : State) (n : Fin 8) : s.asserted.mem.tags[n] = .free := by
  simp [State.asserted, State.reset]

theorem State.asserted_windows (s : State) (w : Fin 16) :
    s.asserted.windows[w] = WindowRecord.zeroed := by
  simp [State.asserted, State.reset]

theorem State.asserted_cursors (s : State) (w : Fin 16) : s.asserted.cursors[w] = none := by
  simp [State.asserted, State.reset]

theorem State.asserted_source (s : State) (src : Source) :
    s.asserted.source src =
      { level := if src = .fault then 8 else 0, pending := false, detail := Detail.empty,
        count := 0 } := by
  have hsource : s.asserted.source src = _ := EventController.reset_source src
  rw [hsource]
  split_ifs <;> rfl

/-- Settles O4. -/
theorem hardResetAndRelease : Obligations.HardResetAndRelease := by
  intro s
  refine ⟨⟨s.asserted, rfl, rfl, fun w => ⟨s.asserted_windows w, s.asserted_cursors w⟩, rfl, rfl,
    s.asserted_tagIsBusy, s.asserted_classes, rfl, rfl, s.asserted_tags, rfl, rfl, rfl,
    s.asserted_source, rfl, rfl, rfl, rfl, rfl, rfl, rfl, rfl, rfl, rfl, rfl, rfl, rfl, rfl, rfl, rfl,
    rfl, rfl, ?_⟩, exec_resetnRelease_of_asserted, exec_resetnRelease_of_released⟩
  rw [exec_resetnRelease_of_asserted (s := s.asserted) rfl]
  rfl

/-! ### Edges of SSN (Table 10-2) -/

theorem ssnRises_of_low {f : FrameState} {sent : Nat} {s : State} (hlow : s.service.ssnLow = true)
    (hframe : s.service.frame = f ∨ s.service.frame = .idle) :
    ssnRises f sent s = .next (s.raiseSsn sent) := if_pos ⟨hlow, hframe⟩

theorem ssnRises_of_not {f : FrameState} {sent : Nat} {s : State}
    (h : s.service.ssnLow = false ∨ (s.service.frame ≠ f ∧ s.service.frame ≠ .idle)) :
    ssnRises f sent s = .next s := by
  refine if_neg fun ⟨hlow, hframe⟩ => ?_
  rcases h with hhigh | ⟨hother, hidle⟩
  · exact nomatch hhigh.symm.trans hlow
  · exact hframe.elim hother hidle

/-- When no reply byte goes out, the record of the bytes sent stays. -/
theorem State.raiseSsn_zero (s : State) :
    s.raiseSsn 0 =
      { s with
        service :=
          { s.service with
            ssnLow := false, frame := .idle, bits := [], stored := [], reply := [] } } := by
  rw [State.raiseSsn, List.take_zero, List.append_nil]

theorem execFrameStart_of_high {s : State} (h : s.service.ssnLow = false) :
    exec .frameStart s = .next
      { s with
        service :=
          { s.service with
            ssnLow := true, bits := [], stored := [],
            frame := if s.resetAsserted then .idle else .command } } :=
  if_neg (Bool.eq_false_iff.mp h)

/-- Settles O45: each edge by the frame state that its row asks for. -/
theorem framesOfTheServicePort : Obligations.FramesOfTheServicePort := by
  intro s sent ended
  have hended : Host.Outcome.next (s.raiseSsn 0) = ended s.service.shifted := by
    rw [State.raiseSsn_zero]
  refine ⟨execFrameStart_of_high, fun hlow => if_pos hlow,
    fun hlow hframe => (ssnRises_of_low hlow (.inl hframe)).trans hended,
    fun hlow hframe => ssnRises_of_low hlow (.inl hframe),
    fun hlow hframe => (ssnRises_of_low hlow (.inl hframe)).trans hended,
    fun hframe => if_pos hframe,
    fun hlow hidle => ⟨(ssnRises_of_low hlow (.inr hidle)).trans hended,
      ssnRises_of_low hlow (.inr hidle), (ssnRises_of_low hlow (.inr hidle)).trans hended⟩,
    ssnRises_of_not, ssnRises_of_not, ssnRises_of_not, fun hframe => if_neg hframe,
    fun hframe => ?idle, fun hframe => ?command, fun hframe b rest hreply => ?reply,
    fun hframe => ?trail⟩
  case idle => rw [State.sdo, hframe]
  case command => rw [State.sdo, hframe]
  case reply =>
    rw [State.sdo, hframe]
    exact congrArg List.head? hreply
  case trail => rw [State.sdo, hframe]

/-! ### Which commands complete (log 4) -/

theorem serviceCode_ofByte_byte (c : ServiceCode) : ServiceCode.ofByte c.byte = some c := by
  cases c <;> decide

theorem exec_unknownCommand_of_unknown {code : Byte} (h : (ServiceCode.ofByte code).isNone = true)
    (s : State) : exec (.unknownCommand code) s = serve s (fun t => (t, .unknown)) := if_pos h

theorem exec_unknownCommand_of_known {code : Byte} (h : (ServiceCode.ofByte code).isNone = false)
    (s : State) : exec (.unknownCommand code) s = .fault .codeNamesCommand :=
  if_neg (Bool.eq_false_iff.mp h)

theorem ssnRises_isNext (f : FrameState) (sent : Nat) (s : State) :
    ∃ t, ssnRises f sent s = .next t := by
  unfold ssnRises
  split_ifs <;> exact ⟨_, rfl⟩

theorem execGrant_isNext (ready : Bool) (s : State) : ∃ t, execGrant ready s = .next t := by
  unfold execGrant
  dsimp only
  split <;> exact ⟨_, rfl⟩

theorem execWriteBackIssue_isNext (ready : Bool) (s : State) :
    ∃ t, execWriteBackIssue ready s = .next t := by
  unfold execWriteBackIssue
  dsimp only
  split
  · exact ⟨_, rfl⟩
  · split_ifs <;> exact ⟨_, rfl⟩

theorem exec_isNext {i : Instr} (h : i.wellFormed = true) (s : State) : ∃ t, exec i s = .next t := by
  cases i with
  | requestTake o =>
    have hwf : o.all Request.wf = true := by
      cases o with
      | none => rfl
      | some r => exact h
    exact ⟨_, exec_requestTake_of_wf hwf s⟩
  | grant ready => exact execGrant_isNext ready s
  | writeBackIssue ready => exact execWriteBackIssue_isNext ready s
  | memoryAnswer n outcome data => exact exec_memoryAnswer_isNext s n outcome data
  | resetnRelease =>
    cases hreset : s.resetAsserted with
    | true => exact ⟨_, exec_resetnRelease_of_asserted hreset⟩
    | false => exact ⟨_, exec_resetnRelease_of_released hreset⟩
  | frameStart =>
    cases hlow : s.service.ssnLow with
    | true => exact ⟨_, if_pos hlow⟩
    | false => exact ⟨_, execFrameStart_of_high hlow⟩
  | unknownCommand code =>
    rw [exec_unknownCommand_of_unknown h]
    exact serve_isNext s _
  | frameDiscard => exact ssnRises_isNext ..
  | replyLost sent => exact ssnRises_isNext ..
  | frameEnd => exact ssnRises_isNext ..
  | endOfReply =>
    by_cases hframe : s.service.frame = .reply
    · exact ⟨_, if_pos hframe⟩
    · exact ⟨_, if_neg hframe⟩
  | holdTimerExpiry requester tag => exact ⟨_, rfl⟩
  | responseTimerExpiry n => exact ⟨_, rfl⟩
  | intervalExpiry => exact ⟨_, rfl⟩
  | endOfRecovery => exact ⟨_, rfl⟩
  | drainTimerExpiry => exact ⟨_, rfl⟩
  | hardReset => exact ⟨_, rfl⟩
  | _ => exact serve_isNext s _

/-- R163: the bytes of a frame's command are another command's, or are ignored, outside COMMAND. -/
theorem exec_ignored {i : Instr} (h : i.wellFormed = true) (hframe : encodeFrame i ≠ none) {s : State}
    (hc : ¬ s.inCommand) : exec i s = .next s := by
  cases i with
  | unknownCommand code =>
    rw [exec_unknownCommand_of_unknown h]
    exact serve_ignored hc _
  | requestTake | grant | writeBackIssue | memoryAnswer | holdTimerExpiry | responseTimerExpiry
  | intervalExpiry | endOfRecovery | drainTimerExpiry | hardReset | resetnRelease | frameStart
  | frameDiscard | replyLost | frameEnd | endOfReply => exact absurd rfl hframe
  | _ => exact serve_ignored hc _

/-- Settles O49. -/
theorem wellFormedCommandsComplete : Obligations.WellFormedCommandsComplete := by
  intro i s
  refine ⟨exec_not_refused i s, fun hwf => exec_isNext hwf s, exec_memoryAnswer_isNext s,
    fun hwf hframe hc => exec_ignored hwf hframe hc, fun r hr => if_neg (Bool.eq_false_iff.mp hr),
    fun c => exec_unknownCommand_of_known ?_ s⟩
  rw [serviceCode_ofByte_byte]
  rfl

end Sys2Proof.Machine
end

section
/-! SUPPORT. The replies of the service port (R167, Table 10-12): the bytes of the six commands that only read
(Tables 10-6, 10-7, 10-8, 10-10 and 10-11), and the length of every reply. -/

namespace Sys2Proof.Machine

open Sys2Proof

/-! ### The bytes of the commands that only read -/

/-- A sum over the members that satisfy a condition. -/
theorem sum_map_ite_zero {α : Type} (p : α → Bool) (f : α → Nat) (l : List α) :
    (l.map fun a => if p a then f a else 0).sum = ((l.filter p).map f).sum := by
  induction l with
  | nil => rfl
  | cons a rest ih =>
    rw [List.map_cons, List.sum_cons, ih]
    cases hp : p a with
    | true => rw [if_pos rfl, List.filter_cons_of_pos hp, List.map_cons, List.sum_cons]
    | false =>
      rw [if_neg Bool.false_ne_true, List.filter_cons_of_neg (by rw [hp]; nofun), Nat.zero_add]

/-- R181. -/
theorem State.pendingSet_eq (s : State) :
    s.pendingSet =
      ((Source.all.filter fun src => (s.source src).pending).map
        (fun src => 2 ^ src.vector.val)).sum :=
  sum_map_ite_zero (fun src => (s.source src).pending) _ _

/-- Table 4-3, the test for each state. -/
def TagRecord.isFree : TagRecord → Bool
  | .free => true
  | _ => false

def TagRecord.isBusy : TagRecord → Bool
  | .busy _ _ _ => true
  | _ => false

def TagRecord.isQuarantined : TagRecord → Bool
  | .quarantined => true
  | _ => false

/-- R169: the tags in a state, by the test of its record. -/
theorem State.countTags_eq (s : State) {state : TagState} {test : TagRecord → Bool}
    (htest : ∀ r : TagRecord, test r = decide (r.state = state)) :
    s.countTags state = ((List.finRange 8).filter fun n => test s.mem.tags[n]).length := by
  simp only [State.countTags, htest]

/-- Table 10-6, byte 0. -/
theorem flagByte_or_shift (valid watch : Bool) :
    (flagByte valid ||| (flagByte watch <<< 1)) =
      (if valid then 1 else 0) + (if watch then 2 else 0) := by
  cases valid <;> cases watch <;> rfl

theorem exec_status_of_inCommand {s : State} (hc : s.inCommand) :
    exec .status s = .next (s.replying (0x01 :: s.statusBytes)) := serve_command hc _

theorem exec_eventPeek_of_inCommand {s : State} (hc : s.inCommand) :
    exec .eventPeek s = .next (s.replying (0x01 :: s.peekBytes)) := serve_command hc _

theorem exec_settingsRead_of_inCommand {s : State} (hc : s.inCommand) :
    exec .settingsRead s = .next (s.replying (0x01 :: s.settings.bytes)) := serve_command hc _

theorem exec_classRead_of_inCommand {s : State} (hc : s.inCommand) (number : Byte) :
    exec (.classRead number) s =
      .next ((s.readClass number).1.replying (s.readClass number).2.bytes) := serve_command hc _

theorem exec_windowRead_of_inCommand {s : State} (hc : s.inCommand) (index : Byte) :
    exec (.windowRead index) s =
      .next ((s.readWindow index).1.replying (s.readWindow index).2.bytes) := serve_command hc _

theorem exec_queueRead_of_inCommand {s : State} (hc : s.inCommand) (position : Byte) :
    exec (.queueRead position) s =
      .next ((s.readQueue position).1.replying (s.readQueue position).2.bytes) := serve_command hc _

theorem State.readClass_of_gt {number : Byte} (h : 7 < number.toNat) (s : State) :
    s.readClass number = (s, .range) := by
  rw [State.readClass, below8_eq_none_iff.mpr h]

theorem State.readClass_of_eq {number : Byte} {k : Fin 8} (h : k.val = number.toNat) (s : State) :
    s.readClass number = (s, .done s.classTable.classes[k].bytes) := by
  rw [State.readClass, below8_eq_some_iff.mpr h]

theorem State.readWindow_of_gt {index : Byte} (h : 15 < index.toNat) (s : State) :
    s.readWindow index = (s, .range) := by
  rw [State.readWindow, below16_eq_none h]

theorem State.readWindow_of_eq {index : Byte} {w : Fin 16} (h : w.val = index.toNat) (s : State) :
    s.readWindow index = (s, .done (s.windows[w].bytes ++ cursorBytes s.cursors[w])) := by
  rw [State.readWindow, below16_eq_some h]

theorem State.readQueue_of_gt {position : Byte} (h : 24 ≤ position.toNat) (s : State) :
    s.readQueue position = (s, .range) := if_neg (Nat.not_lt.mpr h)

theorem State.readQueue_of_free {s : State} {position : Byte} (h : position.toNat < 24)
    (hfree : s.queue.entries.length ≤ position.toNat) :
    s.readQueue position = (s, .done (List.replicate 24 0)) := by
  rw [State.readQueue, queueDepth, if_pos h, List.getElem?_eq_none hfree]

theorem State.readQueue_of_entry {s : State} {position : Byte} {e : Entry} (h : position.toNat < 24)
    (he : s.queue.entries[position.toNat]? = some e) :
    s.readQueue position = (s, .done (e.bytes (s.shownReason e))) := by
  rw [State.readQueue, queueDepth, if_pos h, he]

/-- Table 10-11, byte 6. -/
theorem State.optByte_shownReason (s : State) (e : Entry) :
    optByte HoldReason.byte (s.shownReason e) =
      if e.state = .waiting then (s.holdReason e).byte else 0xFF := by
  unfold State.shownReason
  split_ifs <;> rfl

theorem Entry.bytes_eq (e : Entry) (s : State) :
    e.bytes (s.shownReason e) =
      [1, requesterByte e.requester, byteOf e.tag.val, e.origin.byte, e.kind.byte, e.state.byte,
        if e.state = .waiting then (s.holdReason e).byte else 0xFF,
        optByte (fun d : Fin 8 => byteOf d.val) e.dtag, byteOf e.cls.val, byteOf e.length,
        optByte (fun p : BitOp × Fin 32 => p.1.byte) e.kind.opBit,
        optByte (fun p : BitOp × Fin 32 => byteOf p.2.val) e.kind.opBit] ++ be2 e.stamp ++
        bytes2 (if e.state = .waiting then min 65535 e.holdTimer else 0) ++ be4 e.upAddress ++
        be4 e.physical := by
  rw [Entry.bytes, State.optByte_shownReason]

/-- Settles O47: the record of each command in the order of its table. -/
theorem inspectionCommandsReply : Obligations.InspectionCommandsReply := by
  intro s hc num two four tags pendingSet
  have hpending : bytes2 s.pendingSet = two pendingSet := by
    rw [State.pendingSet_eq]
    rfl
  refine ⟨?status, ?peek, ?settings, fun number hnumber => ?classRange,
    fun number k hk => ?classRecord, fun index hindex => ?windowRange, fun index k hk => ?window,
    fun position hposition => ?queueRange, fun position hposition hfree => ?queueFree,
    fun position e hposition he => ?queueEntry⟩
  case status =>
    rw [exec_status_of_inCommand hc, State.statusBytes, hpending,
      s.countTags_eq (state := .free) (test := TagRecord.isFree) fun r => ?free,
      s.countTags_eq (state := .busy) (test := TagRecord.isBusy) fun r => ?busy,
      s.countTags_eq (state := .quarantined) (test := TagRecord.isQuarantined)
        fun r => ?quarantined]
    case free => cases r <;> rfl
    case busy => cases r <;> rfl
    case quarantined => cases r <;> rfl
    rfl
  case peek =>
    rw [exec_eventPeek_of_inCommand hc, State.peekBytes, hpending]
    rfl
  case settings =>
    rw [exec_settingsRead_of_inCommand hc]
    rfl
  case classRange =>
    rw [exec_classRead_of_inCommand hc, State.readClass_of_gt hnumber]
    rfl
  case classRecord =>
    rw [exec_classRead_of_inCommand hc, State.readClass_of_eq hk]
    rfl
  case windowRange =>
    rw [exec_windowRead_of_inCommand hc, State.readWindow_of_gt hindex]
    rfl
  case window =>
    rw [exec_windowRead_of_inCommand hc, State.readWindow_of_eq hk, WindowRecord.bytes,
      flagByte_or_shift]
    cases s.cursors[k] <;> rfl
  case queueRange =>
    rw [exec_queueRead_of_inCommand hc, State.readQueue_of_gt hposition]
    rfl
  case queueFree =>
    rw [exec_queueRead_of_inCommand hc, State.readQueue_of_free hposition hfree]
    rfl
  case queueEntry =>
    rw [exec_queueRead_of_inCommand hc, State.readQueue_of_entry hposition he, Entry.bytes_eq,
      optByte_class]
    obtain ⟨requester, tag, upAddress, origin, kind, physical, length, cls, stamp, holdLimit,
      holdTimer, state, dtag⟩ := e
    rcases kind with _ | _ | ⟨op, bit⟩ | ⟨op, bit⟩
    · rfl
    · rfl
    · cases op <;> rfl
    · cases op <;> rfl

end Sys2Proof.Machine
end

section
/-! SUPPORT. The length of every reply (R167, Table 10-12): the reply of each command's effect, and the
command that a code and its argument bytes carry. -/

namespace Sys2Proof.Machine

open Sys2Proof

/-! ### The lengths of the forms that are sent -/

theorem WindowRecord.bytes_length (w : WindowRecord) : w.bytes.length = 35 := rfl

theorem cursorBytes_length (c : Option Cursor) : (cursorBytes c).length = 5 := by
  cases c <;> rfl

theorem WindowBytes_ofBytes_length {bytes : List Byte} {b : WindowBytes}
    (h : WindowBytes.ofBytes bytes = some b) : bytes.length = 35 := by
  unfold WindowBytes.ofBytes at h
  split at h
  · rfl
  · cases h

theorem SettingsBytes_ofBytes_length {bytes : List Byte} {b : SettingsBytes}
    (h : SettingsBytes.ofBytes bytes = some b) : bytes.length = 11 := by
  unfold SettingsBytes.ofBytes at h
  split at h
  · rfl
  · cases h

/-! ### The reply of each effect -/

/-- A DONE reply has `n` bytes after the outcome; BUSY and RANGE stand alone; UNKNOWN is no command's
answer. -/
def Reply.Fits (n : Nat) : Reply → Prop
  | .done bytes => bytes.length = n
  | .busy => True
  | .range => True
  | .unknown => False

theorem Reply.Fits.bytes {n : Nat} {r : Reply} (h : r.Fits n) :
    (∃ bytes, r.bytes = 0x01 :: bytes ∧ bytes.length = n) ∨ r.bytes = [0x02] ∨ r.bytes = [0x03] := by
  cases r with
  | done bytes => exact .inl ⟨bytes, rfl, h⟩
  | busy => exact .inr (.inl rfl)
  | range => exact .inr (.inr rfl)
  | unknown => exact h.elim

theorem State.readQueue_fits (position : Byte) (s : State) : (s.readQueue position).2.Fits 24 := by
  unfold State.readQueue
  split
  · split
    · rfl
    · exact List.length_replicate
  · trivial

theorem State.writeWindow_fits (index : Byte) (b : WindowBytes) (s : State) :
    (s.writeWindow index b).2.Fits 0 := by
  unfold State.writeWindow
  split
  · trivial
  · split_ifs
    · rfl
    · split
      · rfl
      · trivial

theorem State.readWindow_fits (index : Byte) (s : State) : (s.readWindow index).2.Fits 40 := by
  unfold State.readWindow
  split
  · rw [Reply.Fits, List.length_append, WindowRecord.bytes_length, cursorBytes_length]
  · trivial

theorem State.placeCursor_fits (index : Byte) (row column : Half) (s : State) :
    (s.placeCursor index row column).2.Fits 0 := by
  unfold State.placeCursor
  split
  · trivial
  · split_ifs
    · rfl
    · trivial

theorem State.rotate_fits (index mode value : Byte) (s : State) :
    (s.rotate index mode value).2.Fits 1 := by
  unfold State.rotate
  split
  · trivial
  · split_ifs
    · split
      · rfl
      · trivial
    · trivial

theorem State.writeClass_fits (number level mode : Byte) (budget carry : Half) (s : State) :
    (s.writeClass number level mode budget carry).2.Fits 0 := by
  unfold State.writeClass
  split
  · rfl
  · trivial

theorem State.readClass_fits (number : Byte) (s : State) : (s.readClass number).2.Fits 15 := by
  unfold State.readClass
  split
  · rfl
  · trivial

theorem State.writeSettings_fits (b : SettingsBytes) (s : State) : (s.writeSettings b).2.Fits 0 := by
  unfold State.writeSettings
  split
  · rfl
  · trivial

theorem State.monitorAccess_fits (address : Word) (kind : EntryKind) (s : State) :
    (s.monitorAccess address kind).2.Fits 2 := by
  unfold State.monitorAccess
  split_ifs
  · trivial
  · trivial
  · rfl

theorem State.collectMonitor_fits (s : State) : s.collectMonitor.2.Fits 6 := by
  unfold State.collectMonitor
  split_ifs <;> rfl

theorem State.setupEvent_fits (source level : Byte) (s : State) :
    (s.setupEvent source level).2.Fits 0 := by
  unfold State.setupEvent
  split
  · split_ifs
    · rfl
    · trivial
  · trivial

theorem State.takeEvent_fits (s : State) : s.takeEvent.2.Fits 12 := by
  unfold State.takeEvent
  split_ifs
  · rfl
  · split <;> rfl

theorem State.restoreFloor_fits (s : State) : s.restoreFloor.2.Fits 1 := by
  unfold State.restoreFloor
  split
  · trivial
  · rfl

theorem State.writeFloor_fits (value : Byte) (s : State) : (s.writeFloor value).2.Fits 0 := by
  unfold State.writeFloor
  split_ifs
  · rfl
  · trivial

theorem State.startDrain_fits (mask : Byte) (s : State) : (s.startDrain mask).2.Fits 1 := by
  unfold State.startDrain
  split_ifs
  · trivial
  · trivial
  · rfl
  · rfl

theorem State.resume_fits (s : State) : s.resume.2.Fits 1 := by
  unfold State.resume
  split_ifs
  · trivial
  · rfl

theorem State.faultClear_fits (s : State) : s.faultClear.2.Fits 0 := by
  unfold State.faultClear
  split_ifs
  · rfl
  · trivial

theorem State.restoreDefaults_fits (s : State) : s.restoreDefaults.2.Fits 0 := by
  unfold State.restoreDefaults
  split_ifs
  · rfl
  · trivial

/-! ### The command of a code and its argument bytes -/

/-- A command of code `c` is an effect with a reply of the code's length. -/
def Served (c : ServiceCode) (i : Instr) : Prop :=
  ∃ f : State → State × Reply, (∀ s, exec i s = serve s f) ∧ ∀ s, (f s).2.Fits c.replyBytes

/-- Table 10-12: a code's argument bytes have its length, and what they carry has its reply. -/
theorem decodeArgs_served {c : ServiceCode} {args : List Byte} {i : Instr}
    (h : decodeArgs c args = some i) : args.length = c.argBytes ∧ Served c i := by
  cases c with
  | windowWrite =>
    rcases args with _ | ⟨index, rest⟩
    · cases h
    · have hrecord : (WindowBytes.ofBytes rest).map (Instr.windowWrite index) = some i := h
      obtain ⟨b, hb, rfl⟩ := Option.map_eq_some_iff.mp hrecord
      exact ⟨congrArg (· + 1) (WindowBytes_ofBytes_length hb), _, fun _ => rfl,
        State.writeWindow_fits index b⟩
  | settingsWrite =>
    have hrecord : (SettingsBytes.ofBytes args).map Instr.settingsWrite = some i := h
    obtain ⟨b, hb, rfl⟩ := Option.map_eq_some_iff.mp hrecord
    exact ⟨SettingsBytes_ofBytes_length hb, _, fun _ => rfl, State.writeSettings_fits b⟩
  | status =>
    rcases args with _ | ⟨x, rest⟩ <;> cases h
    exact ⟨rfl, _, fun _ => rfl, fun _ => rfl⟩
  | queueRead =>
    rcases args with _ | ⟨position, _ | ⟨x, rest⟩⟩ <;> cases h
    exact ⟨rfl, _, fun _ => rfl, State.readQueue_fits _⟩
  | windowRead =>
    rcases args with _ | ⟨index, _ | ⟨x, rest⟩⟩ <;> cases h
    exact ⟨rfl, _, fun _ => rfl, State.readWindow_fits _⟩
  | cursorSet =>
    rcases args with _ | ⟨index, _ | ⟨r1, _ | ⟨r0, _ | ⟨c1, _ | ⟨c0, _ | ⟨x, rest⟩⟩⟩⟩⟩⟩ <;> cases h
    exact ⟨rfl, _, fun _ => rfl, State.placeCursor_fits _ _ _⟩
  | rotate =>
    rcases args with _ | ⟨index, _ | ⟨mode, _ | ⟨value, _ | ⟨x, rest⟩⟩⟩⟩ <;> cases h
    exact ⟨rfl, _, fun _ => rfl, State.rotate_fits _ _ _⟩
  | classWrite =>
    rcases args with
      _ | ⟨number, _ | ⟨level, _ | ⟨mode, _ | ⟨b1, _ | ⟨b0, _ | ⟨c1, _ | ⟨c0, _ | ⟨x, rest⟩⟩⟩⟩⟩⟩⟩⟩ <;>
      cases h
    exact ⟨rfl, _, fun _ => rfl, State.writeClass_fits _ _ _ _ _⟩
  | classRead =>
    rcases args with _ | ⟨number, _ | ⟨x, rest⟩⟩ <;> cases h
    exact ⟨rfl, _, fun _ => rfl, State.readClass_fits _⟩
  | settingsRead =>
    rcases args with _ | ⟨x, rest⟩ <;> cases h
    exact ⟨rfl, _, fun _ => rfl, fun _ => rfl⟩
  | monitorRead =>
    rcases args with _ | ⟨a3, _ | ⟨a2, _ | ⟨a1, _ | ⟨a0, _ | ⟨x, rest⟩⟩⟩⟩⟩ <;> cases h
    exact ⟨rfl, _, fun _ => rfl, State.monitorAccess_fits _ _⟩
  | monitorWrite =>
    rcases args with
      _ | ⟨a3, _ | ⟨a2, _ | ⟨a1, _ | ⟨a0, _ | ⟨d3, _ | ⟨d2, _ | ⟨d1, _ | ⟨d0, _ | ⟨x, rest⟩⟩⟩⟩⟩⟩⟩⟩⟩ <;>
      cases h
    exact ⟨rfl, _, fun _ => rfl, State.monitorAccess_fits _ _⟩
  | monitorResult =>
    rcases args with _ | ⟨x, rest⟩ <;> cases h
    exact ⟨rfl, _, fun _ => rfl, State.collectMonitor_fits⟩
  | eventSetup =>
    rcases args with _ | ⟨source, _ | ⟨level, _ | ⟨x, rest⟩⟩⟩ <;> cases h
    exact ⟨rfl, _, fun _ => rfl, State.setupEvent_fits _ _⟩
  | eventTake =>
    rcases args with _ | ⟨x, rest⟩ <;> cases h
    exact ⟨rfl, _, fun _ => rfl, State.takeEvent_fits⟩
  | eventRestore =>
    rcases args with _ | ⟨x, rest⟩ <;> cases h
    exact ⟨rfl, _, fun _ => rfl, State.restoreFloor_fits⟩
  | eventFloor =>
    rcases args with _ | ⟨value, _ | ⟨x, rest⟩⟩ <;> cases h
    exact ⟨rfl, _, fun _ => rfl, State.writeFloor_fits _⟩
  | eventClear =>
    rcases args with _ | ⟨m1, _ | ⟨m0, _ | ⟨x, rest⟩⟩⟩ <;> cases h
    exact ⟨rfl, _, fun _ => rfl, fun _ => rfl⟩
  | eventPeek =>
    rcases args with _ | ⟨x, rest⟩ <;> cases h
    exact ⟨rfl, _, fun _ => rfl, fun _ => rfl⟩
  | flush =>
    rcases args with _ | ⟨mask, _ | ⟨x, rest⟩⟩ <;> cases h
    exact ⟨rfl, _, fun _ => rfl, fun _ => rfl⟩
  | drain =>
    rcases args with _ | ⟨mask, _ | ⟨x, rest⟩⟩ <;> cases h
    exact ⟨rfl, _, fun _ => rfl, State.startDrain_fits _⟩
  | resume =>
    rcases args with _ | ⟨x, rest⟩ <;> cases h
    exact ⟨rfl, _, fun _ => rfl, State.resume_fits⟩
  | faultClear =>
    rcases args with _ | ⟨x, rest⟩ <;> cases h
    exact ⟨rfl, _, fun _ => rfl, State.faultClear_fits⟩
  | defaults =>
    rcases args with _ | ⟨x, rest⟩ <;> cases h
    exact ⟨rfl, _, fun _ => rfl, State.restoreDefaults_fits⟩

/-- Settles O48. -/
theorem repliesHaveTheTablesLength : Obligations.RepliesHaveTheTablesLength := by
  intro c args i s hdecoded hc
  obtain ⟨hlength, f, hserve, hfits⟩ := decodeArgs_served hdecoded
  exact ⟨hlength, _, (hserve s).trans (serve_command hc f), rfl, (hfits s).bytes⟩

end Sys2Proof.Machine
end

section
/-! SUPPORT. Frames, byte by byte and bit by bit (R163, R164, R166, R181): the bytes of a command are read
back as that command at the arrival of the last one, and in REPLY and TRAIL nothing is stored. -/

namespace Sys2Proof.Machine

open Sys2Proof

/-! ### Numbers of more than one byte (R181) -/

theorem of2_extract (x : Half) : of2 (x.extractLsb' 8 8) (x.extractLsb' 0 8) = x := by
  refine BitVec.eq_of_getLsbD_eq fun i hi => ?_
  simp only [of2, BitVec.getLsbD_append, BitVec.getLsbD_extractLsb']
  split_ifs with hlow
  · simp [hlow]
  · have hindex : 8 + (i - 8) = i := by omega
    have hhigh : i - 8 < 8 := by omega
    simp [hindex, hhigh]

theorem of4_extract (x : Word) :
    of4 (x.extractLsb' 24 8) (x.extractLsb' 16 8) (x.extractLsb' 8 8) (x.extractLsb' 0 8) = x := by
  refine BitVec.eq_of_getLsbD_eq fun i hi => ?_
  simp only [of4, BitVec.getLsbD_append, BitVec.getLsbD_extractLsb']
  split_ifs with h0 h1 h2
  · simp [h0]
  · have hindex : 8 + (i - 8) = i := by omega
    simp [hindex, h1]
  · have hindex : 16 + (i - 8 - 8) = i := by omega
    simp [hindex, h2]
  · have hindex : 24 + (i - 8 - 8 - 8) = i := by omega
    have hhigh : i - 8 - 8 - 8 < 8 := by omega
    simp [hindex, hhigh]

theorem WindowBytes_ofBytes_toBytes (b : WindowBytes) : WindowBytes.ofBytes b.toBytes = some b := by
  simp only [WindowBytes.toBytes, be2, be4, List.cons_append, List.nil_append, WindowBytes.ofBytes,
    of2_extract, of4_extract]

theorem SettingsBytes_ofBytes_toBytes (b : SettingsBytes) :
    SettingsBytes.ofBytes b.toBytes = some b := by
  simp only [SettingsBytes.toBytes, be2, List.cons_append, List.nil_append, SettingsBytes.ofBytes,
    of2_extract]

/-! ### The frame of a command -/

/-- The bytes of command `i`: they are taken as `i` whatever follows, and no earlier. -/
structure FrameOf (bytes : List Byte) (i : Instr) : Prop where
  takes : ∀ more, decodeFrame (bytes ++ more) = some i
  early : ∀ q < bytes.length, decodeFrame (bytes.take q) = none

theorem FrameOf.unknown {code : Byte} (h : ServiceCode.ofByte code = none) :
    FrameOf [code] (.unknownCommand code) where
  takes := decodeFrame_of_ofByte_eq_none h
  early q hq := by
    have hzero : q = 0 := Nat.lt_one_iff.mp hq
    rw [hzero]
    rfl

theorem FrameOf.of_args {c : ServiceCode} {args : List Byte} {i : Instr}
    (h : decodeArgs c args = some i) : FrameOf (c.byte :: args) i where
  takes more := by
    have hlength := (decodeArgs_served h).1
    rw [List.cons_append, decodeFrame, serviceCode_ofByte_byte]
    dsimp only
    rw [if_neg (by rw [List.length_append]; omega), ← hlength, List.take_left, h]
  early q hq := by
    have hlength := (decodeArgs_served h).1
    cases q with
    | zero => rfl
    | succ q =>
      rw [List.length_cons] at hq
      rw [List.take_succ_cons, decodeFrame, serviceCode_ofByte_byte]
      exact if_pos (by rw [List.length_take]; omega)

/-- Tables 10-5, 10-6, 10-8 and 10-12: what is encoded is decoded. -/
theorem frameOf_encodeFrame {i : Instr} {bytes : List Byte} (hwf : i.wellFormed = true)
    (h : encodeFrame i = some bytes) : FrameOf bytes i := by
  cases i with
  | unknownCommand code =>
    cases h
    exact .unknown (Option.isNone_iff_eq_none.mp hwf)
  | requestTake | grant | writeBackIssue | memoryAnswer | holdTimerExpiry | responseTimerExpiry
  | intervalExpiry | endOfRecovery | drainTimerExpiry | hardReset | resetnRelease | frameStart
  | frameDiscard | replyLost | frameEnd | endOfReply => cases h
  | windowWrite index b =>
    cases h
    exact .of_args (congrArg (Option.map (Instr.windowWrite index)) (WindowBytes_ofBytes_toBytes b))
  | settingsWrite b =>
    cases h
    exact .of_args (congrArg (Option.map Instr.settingsWrite) (SettingsBytes_ofBytes_toBytes b))
  | cursorSet index row column =>
    cases h
    exact .of_args (congrArg₂ (fun r c => some (Instr.cursorSet index r c)) (of2_extract row)
      (of2_extract column))
  | classWrite number level mode budget carry =>
    cases h
    exact .of_args (congrArg₂ (fun b c => some (Instr.classWrite number level mode b c))
      (of2_extract budget) (of2_extract carry))
  | monitorRead address =>
    cases h
    exact .of_args (congrArg (fun a => some (Instr.monitorRead a)) (of4_extract address))
  | monitorWrite address data =>
    cases h
    exact .of_args (congrArg₂ (fun a d => some (Instr.monitorWrite a d)) (of4_extract address)
      (of4_extract data))
  | eventClear mask =>
    cases h
    exact .of_args (congrArg (fun m => some (Instr.eventClear m)) (of2_extract mask))
  | _ =>
    cases h
    exact .of_args rfl

/-! ### Bytes on SDI (Table 10-2) -/

theorem State.byteArrives_stores {s : State} {b : Byte} (hframe : s.service.frame = .command)
    (h : decodeFrame (s.service.stored ++ [b]) = none) :
    s.byteArrives b = .next (s.store (s.service.stored ++ [b])) := by
  rw [State.byteArrives, hframe]
  dsimp only
  rw [h]

theorem State.byteArrives_takes {s : State} {b : Byte} {i : Instr}
    (hframe : s.service.frame = .command)
    (h : decodeFrame (s.service.stored ++ [b]) = some i) :
    s.byteArrives b = exec i (s.store []) := by
  rw [State.byteArrives, hframe]
  dsimp only
  rw [h]

theorem State.listens_of_command {s : State} (hlow : s.service.ssnLow = true)
    (hframe : s.service.frame = .command) : s.listens :=
  ⟨hlow, by rw [hframe]; nofun⟩

/-- A byte clocked in is one byte arrival. -/
theorem State.clockBits_msbFirst {s : State} (h : s.listens) (hbits : s.service.bits = [])
    (b : Byte) : s.clockBits (msbFirst b) = s.byteArrives b := by
  rw [State.clockBits_slot h hbits _ (msbFirst_length b), byteOfBits_msbFirst]

/-- Bytes that take no command yet are stored. -/
theorem State.clockBits_stores {l : List Byte} {s : State} (hlow : s.service.ssnLow = true)
    (hframe : s.service.frame = .command) (hbits : s.service.bits = [])
    (hnone : ∀ q < l.length, decodeFrame (s.service.stored ++ l.take (q + 1)) = none) :
    s.clockBits (l.flatMap msbFirst) = .next (s.store (s.service.stored ++ l)) := by
  induction l generalizing s with
  | nil =>
    rw [List.append_nil]
    rfl
  | cons b rest ih =>
    have hfirst : s.clockBits (msbFirst b) = .next (s.store (s.service.stored ++ [b])) := by
      rw [State.clockBits_msbFirst (State.listens_of_command hlow hframe) hbits]
      exact State.byteArrives_stores hframe (hnone 0 (Nat.succ_pos _))
    rw [List.flatMap_cons, State.clockBits_append _ _ _ _ hfirst]
    rw [ih (s := s.store (s.service.stored ++ [b])) hlow hframe hbits fun q hq => ?_]
    · have hstored : s.service.stored ++ [b] ++ rest = s.service.stored ++ b :: rest :=
        List.append_assoc _ [b] rest
      rw [← hstored]
      rfl
    · have hnext := hnone (q + 1) (Nat.succ_lt_succ hq)
      rw [List.take_succ_cons] at hnext
      exact (congrArg decodeFrame (List.append_assoc s.service.stored [b] _)).trans hnext

/-- The first bytes of a command's frame are stored. -/
theorem State.clockBits_early {s : State} {bytes : List Byte} {i : Instr} (hframe : FrameOf bytes i)
    (hc : s.inCommand) (hlow : s.service.ssnLow = true) {q : Nat} (hq : q < bytes.length) :
    s.clockBits ((bytes.take q).flatMap msbFirst) = .next (s.store (bytes.take q)) := by
  obtain ⟨hcommand, hstored, hbits⟩ := hc
  have hclock := State.clockBits_stores (l := bytes.take q) hlow hcommand hbits fun p hp => ?_
  · rw [hstored, List.nil_append] at hclock
    exact hclock
  · rw [List.length_take] at hp
    rw [hstored, List.nil_append, List.take_take, Nat.min_eq_left (by omega)]
    exact hframe.early (p + 1) (by omega)

/-- At the last bit of its frame the command is taken. -/
theorem State.clockBits_frame {s : State} {bytes : List Byte} {i : Instr} (hframe : FrameOf bytes i)
    (hc : s.inCommand) (hlow : s.service.ssnLow = true) :
    s.clockBits (bytes.flatMap msbFirst) = exec i s := by
  have hne : bytes ≠ [] := by
    rintro rfl
    exact nomatch hframe.takes []
  obtain ⟨first, last, rfl⟩ : ∃ first last, bytes = first ++ [last] :=
    ⟨_, _, (List.dropLast_append_getLast hne).symm⟩
  have hstores := State.clockBits_early (q := first.length) hframe hc hlow (by simp)
  have htakes := hframe.takes []
  obtain ⟨hcommand, hstored, hbits⟩ := hc
  rw [List.take_left] at hstores
  rw [List.append_nil] at htakes
  have hempty : (s.store first).store [] = s := by
    rw [← hstored]
    rfl
  rw [List.flatMap_append, State.clockBits_append _ _ _ _ hstores, List.flatMap_singleton,
    State.clockBits_msbFirst (s := s.store first) (State.listens_of_command hlow hcommand) hbits,
    State.byteArrives_takes (s := s.store first) hcommand htakes, hempty]

theorem take_flatMap_msbFirst (q : Nat) (bytes : List Byte) :
    (bytes.flatMap msbFirst).take (8 * q) = (bytes.take q).flatMap msbFirst := by
  induction q generalizing bytes with
  | zero => rfl
  | succ q ih =>
    cases bytes with
    | nil => rfl
    | cons b rest =>
      have hlength : 8 * (q + 1) = (msbFirst b).length + 8 * q := by
        rw [msbFirst_length]
        omega
      rw [List.flatMap_cons, hlength, List.take_length_add_append, ih, List.take_succ_cons,
        List.flatMap_cons]

/-- R164: SSN's rising drops the bits and bytes that have arrived. -/
theorem exec_frameDiscard_setBits_store {s : State} (hlow : s.service.ssnLow = true)
    (hframe : s.service.frame = .command) (bits : List Bool) (stored : List Byte) :
    exec .frameDiscard ((s.store stored).setBits bits) = exec .frameDiscard s := by
  have hafter : ssnRises .command 0 ((s.store stored).setBits bits) = .next (s.raiseSsn 0) :=
    ssnRises_of_low hlow (.inl hframe)
  exact hafter.trans (ssnRises_of_low hlow (.inl hframe)).symm

/-- R164: before its last bit the frame has changed nothing that SSN's rising does not drop. -/
theorem State.clockBits_discarded {s : State} {bytes : List Byte} {i : Instr}
    (hframe : FrameOf bytes i) (hc : s.inCommand) (hlow : s.service.ssnLow = true) {k : Nat}
    (hk : k < 8 * bytes.length) :
    ∃ t, s.clockBits ((bytes.flatMap msbFirst).take k) = .next t ∧
      exec .frameDiscard t = exec .frameDiscard s := by
  have hstores := State.clockBits_early (q := k / 8) hframe hc hlow (by omega)
  obtain ⟨hcommand, -, hbits⟩ := hc
  have hlistens : (s.store (bytes.take (k / 8))).listens := State.listens_of_command hlow hcommand
  have hshort := State.clockBits_short hlistens
    (((bytes.flatMap msbFirst).drop (8 * (k / 8))).take (k % 8)) (by
      have hnone : (s.store (bytes.take (k / 8))).service.bits = [] := hbits
      rw [hnone, List.length_take]
      simp only [List.length_nil]
      omega)
  have hsplit : (bytes.flatMap msbFirst).take k =
      (bytes.take (k / 8)).flatMap msbFirst ++
        ((bytes.flatMap msbFirst).drop (8 * (k / 8))).take (k % 8) := by
    rw [← take_flatMap_msbFirst, ← List.take_add, Nat.div_add_mod]
  rw [hsplit, State.clockBits_append _ _ _ _ hstores]
  exact ⟨_, hshort, exec_frameDiscard_setBits_store hlow hcommand _ _⟩

/-! ### Slots in REPLY and in TRAIL -/

theorem State.byteArrives_reply_last {s : State} {out : Byte} (hframe : s.service.frame = .reply)
    (hreply : s.service.reply = [out]) (b : Byte) : s.byteArrives b = exec .endOfReply s := by
  rw [State.byteArrives, hframe]
  dsimp only
  rw [hreply]

theorem State.byteArrives_reply_next {s : State} {out next : Byte} {rest : List Byte}
    (hframe : s.service.frame = .reply) (hreply : s.service.reply = out :: next :: rest) (b : Byte) :
    s.byteArrives b = .next (s.shiftOut out (next :: rest)) := by
  rw [State.byteArrives, hframe]
  dsimp only
  rw [hreply]

theorem State.byteArrives_trail {s : State} (hframe : s.service.frame = .trail) (b : Byte) :
    s.byteArrives b = .next s := by
  rw [State.byteArrives, hframe]

/-- R163: the bit on SDO is the one at the present place of the byte, from the most significant on. -/
theorem State.sdoBit_setBits {s : State} {b : Byte} {rest : List Byte}
    (hframe : s.service.frame = .reply) (hreply : s.service.reply = b :: rest) (bits : List Bool) :
    (s.setBits bits).sdoBit = some (b.getLsbD (7 - bits.length)) := by
  have hsdo : (s.setBits bits).sdo = some b := by
    have hframeAfter : (s.setBits bits).service.frame = .reply := hframe
    rw [State.sdo, hframeAfter]
    exact congrArg List.head? hreply
  rw [State.sdoBit, hsdo]
  rfl

/-- Settles O60: a frame is stored byte by byte up to the last, which takes the command; a slot in REPLY
shifts one byte out. -/
theorem framesDecodeAsEncoded : Obligations.FramesDecodeAsEncoded := by
  unfold Obligations.FramesDecodeAsEncoded
  intro msb
  refine ⟨fun i bytes more hwf hencode => (frameOf_encodeFrame hwf hencode).takes more,
    fun i bytes s hwf hencode hc hlow => ?frame,
    fun s slot b rest hlength hlow hframe hbits hreply => ?reply,
    fun s slot hlength hlow hframe hbits => ?trail, fun s bit hignored => if_pos hignored⟩
  case frame =>
    have hframe := frameOf_encodeFrame hwf hencode
    exact ⟨State.clockBits_frame hframe hc hlow,
      fun k hk => State.clockBits_discarded hframe hc hlow hk⟩
  case reply =>
    have hlistens : s.listens := ⟨hlow, by rw [hframe]; nofun⟩
    have hslot := State.clockBits_slot hlistens hbits slot hlength
    refine ⟨fun k hk => ⟨s.setBits (slot.take k), ?_, ?_, rfl⟩, fun hmore => ?_, fun hlast => ?_⟩
    · have hshort := State.clockBits_short hlistens (slot.take k) (by
        rw [hbits, List.length_take]
        simp only [List.length_nil]
        omega)
      rw [hbits, List.nil_append] at hshort
      exact hshort
    · rw [State.sdoBit_setBits hframe hreply, List.length_take, Nat.min_eq_left (by omega)]
    · obtain ⟨next, rest, rfl⟩ := List.exists_cons_of_ne_nil hmore
      rw [hslot, State.byteArrives_reply_next hframe hreply]
      rfl
    · rw [hslot]
      exact State.byteArrives_reply_last hframe (hlast ▸ hreply) _
  case trail =>
    have hlistens : s.listens := ⟨hlow, by rw [hframe]; nofun⟩
    rw [State.clockBits_slot hlistens hbits slot hlength, State.byteArrives_trail hframe]

end Sys2Proof.Machine
end
